-- ==== Sys2Proof/Word.lean ====
section
/-! DEFINITION. The words of the ring: bytes, 16-bit counts and 32-bit addresses (00_scope.md section 3). -/

namespace Sys2Proof

abbrev Byte := BitVec 8
abbrev Word16 := BitVec 16
abbrev Word32 := BitVec 32

/-- The range of a signed 32-bit quantity. -/
abbrev inRange32 (x : Int) : Prop := -2147483648 ≤ x ∧ x ≤ 2147483647

end Sys2Proof
end

