-- ==== Sys2Proof/Syntax.lean ====
section
/-! DEFINITION. The commands of the block: one constructor of `Instr` per row of spec/opcode_table.json. -/

namespace Sys2Proof

/-- The two reels (R68); `code` order: 0 supply, 1 take-up (R93). -/
inductive Reel where
  | supply
  | takeup
deriving DecidableEq, Repr

/-- Four message bytes, the data of one fragment (section 1.6, Fragment marks). -/
structure Quad where
  b0 : Byte
  b1 : Byte
  b2 : Byte
  b3 : Byte
deriving DecidableEq, Repr

/-- A ring frame of 48 bytes (section 1.6, Servo frame), field by field in byte order. The reserved bits and byte 17 are
carried, since the part forwards bytes 0 to 27 as they arrived (R11) and its check covers them (R2). -/
structure Frame where
  seq : Byte
  kind : Byte
  supTach : Word16
  takTach : Word16
  idler : Word16
  supArm : Word16
  takArm : Word16
  track : Word32
  edges : Byte
  byte17 : Byte
  ref : Word32
  refFlags : Byte
  cmdMark : Byte
  cmdData : Quad
  supTorque : Word16
  takTorque : Word16
  capSpeed : Word16
  driveFlags : Byte
  gates : Byte
  rplMark : Byte
  rplData : Quad
  status0 : Byte
  status1 : Word16
  bytes44 : Word16
  crc : Word16
deriving DecidableEq, Repr

/-- One unit's share of the work a good frame causes (R6). Where the manual lets two of these be taken in either order
at one arrival (R41, R66, R89, R92, R107, R133, R146, R162, R177, R186), a schedule says which comes first. -/
inductive Task where
  /-- the Message Unit takes the command field, and a command it completes is executed (R21, R29) -/
  | command
  /-- steps 1 to 3 of a channel's work (R70) -/
  | supplyWindow
  | takeupWindow
  /-- the Position Unit's steps and the publication of the movement record (R96) -/
  | position
  /-- the planner's work at the record (R126) -/
  | planner
  /-- the Cue Unit's work at the record (R157) -/
  | cue
  /-- the Chase Unit's work at the record (R164, R165) -/
  | chase
  /-- the frame tests of the Protection Unit (R179, R180) -/
  | protection
  /-- the settle run (R184) -/
  | settle
  /-- step 4 of a channel's work (R70) -/
  | supplyTorque
  | takeupTorque
deriving DecidableEq, Repr

/-- The order of one arrival's work, and which reel the tests of R179 and R180 take first. -/
structure Schedule where
  order : List Task
  takeupFirst : Bool
deriving DecidableEq, Repr

/-- The commands, in the order of the opcode table. A command of the controller carries its TAG and its parameter bytes;
LEN is their number. -/
inductive Instr where
  | powerOn
  | foreignFrame (f : Frame)
  | servoFrameArrival (f : Frame) (sched : Schedule)
  /-- `growth` frames are added to the lapse; `goodSeq` is the SEQ of the good frame that adds them, if it is one -/
  | senseLost (growth : Byte) (goodSeq : Option Byte)
  | silenceExpiry
  | pauseTimeout
  | unknownCommand (code : Byte) (tag : Byte) (params : List Byte)
  | readRing (tag : Byte) (params : List Byte)
  | identify (tag : Byte) (params : List Byte)
  | readMessaging (tag : Byte) (params : List Byte)
  | restart (tag : Byte) (params : List Byte)
  | configWrite (tag : Byte) (params : List Byte)
  | configCommit (tag : Byte) (params : List Byte)
  | configOpen (tag : Byte) (params : List Byte)
  | configClear (tag : Byte) (params : List Byte)
  | configRead (tag : Byte) (params : List Byte)
  | profileWindow (tag : Byte) (params : List Byte)
  | profileData (tag : Byte) (params : List Byte)
  | profileSelect (tag : Byte) (params : List Byte)
  | profileClear (tag : Byte) (params : List Byte)
  | profileRead (tag : Byte) (params : List Byte)
  | readReel (tag : Byte) (params : List Byte)
  | setPosition (tag : Byte) (params : List Byte)
  | readPosition (tag : Byte) (params : List Byte)
  | queueMotion (tag : Byte) (params : List Byte)
  | stopNow (tag : Byte) (params : List Byte)
  | flush (tag : Byte) (params : List Byte)
  | setVarispeed (tag : Byte) (params : List Byte)
  | resume (tag : Byte) (params : List Byte)
  | readTransport (tag : Byte) (params : List Byte)
  | cueWrite (tag : Byte) (params : List Byte)
  | cueWriteMany (tag : Byte) (params : List Byte)
  | cueArm (tag : Byte) (params : List Byte)
  | cueDisarm (tag : Byte) (params : List Byte)
  | cueClear (tag : Byte) (params : List Byte)
  | cueRead (tag : Byte) (params : List Byte)
  | setOffset (tag : Byte) (params : List Byte)
  | readSync (tag : Byte) (params : List Byte)
  | readFaults (tag : Byte) (params : List Byte)
  | estop (tag : Byte) (params : List Byte)
  | release (tag : Byte) (params : List Byte)
  | radiusWindowStale (reel : Reel)
  | senseMismatch (reel : Reel)
  /-- `rawTorque` is τ_raw of the computation that reaches SAT_FRAMES -/
  | torqueSaturated (reel : Reel) (rawTorque : Int)
  | trackAgeExpiry
  | supersession
  | pinchEngaged
  | pinchReleased
  | dwellExpiry
  | haltComplete
  | locateParked
  | locateTimeout
  | internalLocateActivate
  /-- `e` is the error of the record that completes the run -/
  | lockQualified (e : Int)
  | stableQualified (e : Int)
  | refLost
  | slack (reel : Reel)
  | overtension (reel : Reel)
  | estopSettled
deriving DecidableEq, Repr

end Sys2Proof
end

