-- ==== Sys2Proof/Config.lean ====
section
/-! DEFINITION. Constants of the part, and the values the manual does not state. -/

namespace Sys2Proof.Config

/-- A 32-bit value the manual does not state (log 7): what a field or a sum shows where the exact value does not fit it.
The argument is the number of the draw (`State.freeDraws`), so each draw is a value of its own. Nothing constrains it. -/
opaque freeInt32 : Nat → BitVec 32

/-- 00_scope.md section 3.1: TENSION_CEIL is a constant of the part. -/
def tensionCeil : Nat := 2000
/-- R31. -/
def replyCapacity : Nat := 4
/-- R32. -/
def noticeCapacity : Nat := 32
/-- R113. -/
def motionCapacity : Nat := 16
/-- R147. -/
def cueCapacity : Nat := 32
/-- R148. -/
def gateLines : Nat := 8
/-- R36: part code and revision. -/
def partCode : Nat := 3416
def revision : Nat := 1
/-- R20, R22: the longest LEN. -/
def maxLen : Nat := 61
/-- R25: IDLE frames that break a message. -/
def pauseLimit : Nat := 64
/-- R114, R175: the range of a chase offset. -/
def offsetLimit : Int := 8388608
/-- R131: the range of the varispeed, basis points. -/
def varispeedLimit : Int := 1250

end Sys2Proof.Config
end

