-- ==== Sys2Proof/Machine/State.lean ====
section
/-! DEFINITION. The state of the part, block by block, as plain data, and its power-on value. Each field's docstring names
the rule of spec/ it holds; INVENTORY.md lists them with their reset values. -/

namespace Sys2Proof.Machine

/-! ## Names -/

/-- Result codes of replies (section 2.6). -/
inductive Result where
  | ok
  | clamped
  | unknownCommand
  | badLength
  | badValue
  | wrongState
  | queueFull
  | configInvalid
  | inUse
  | crcMismatch
  | noWindow
  | profileIncomplete
  | duplicate
  | noResume
  | tapeOut
  | broken
  | checkFailed
deriving DecidableEq, Repr

/-- R8. -/
inductive TimerState where
  | stopped
  | running
  | expired
deriving DecidableEq, Repr

/-- R20. -/
inductive AssemblyState where
  | empty
  | assembling
  | discarding
deriving DecidableEq, Repr

/-- R94. -/
inductive TrackStatus where
  | absent
  | coasting
  | tracking
deriving DecidableEq, Repr

/-- R110. -/
inductive Transport where
  | safe
  | braked
  | stopped
  | play
  | wind
  | locate
  | chase
  | halting
  | estop
deriving DecidableEq, Repr

/-- R63, R128. -/
inductive MotionClass where
  | hold
  | play
  | wind
  | locate
deriving DecidableEq, Repr

/-- R129; the count of ENGAGING and RELEASING is the constructor's argument. -/
inductive Pinch where
  | released
  | engaging (count : Nat)
  | engaged
  | releasing (count : Nat)
deriving DecidableEq, Repr

/-- R119. -/
inductive RequestKind where
  | play
  | wind
  | locate
  | chase
  | stop
  | dwell
deriving DecidableEq, Repr

/-- R119: the result a request ends with. -/
inductive EndResult where
  | completed
  | superseded
  | flushed
  | fault
  | timeout
  | unsettled
  | noPosition
  | cueHalt
  | refLost
  | endOfTape
deriving DecidableEq, Repr

/-- R130: the chase motion mode. -/
inductive ChaseMode where
  | none
  | locate
  | parked
  | capstan
deriving DecidableEq, Repr

/-- R134. -/
inductive LocateKind where
  | none
  | request
  | internal
deriving DecidableEq, Repr

/-- R134. -/
inductive Phase where
  | none
  | wait
  | cruise
  | decel
  | park
  | recover
deriving DecidableEq, Repr

/-- R147. -/
inductive CueState where
  | empty
  | armed
  | disarmed
  | spent
deriving DecidableEq, Repr

/-- Section 1.6, Cue entry. -/
inductive CueDirection where
  | fwd
  | rev
  | either
deriving DecidableEq, Repr

/-- Section 1.6, Cue entry. -/
inductive CueAction where
  | gateOpen
  | gateClose
  | notice
  | halt
  | profile
deriving DecidableEq, Repr

/-- R163. -/
inductive ChaseState where
  | idle
  | standby
  | acquire
  | slew
  | phase
  | locked
  | stable
  | holdover
deriving DecidableEq, Repr

/-- R163: the kind of the Chase Unit's last order. -/
inductive ChaseOrder where
  | none
  | hold
  | locate
  | capstan
deriving DecidableEq, Repr

/-- R178: the ten conditions. -/
inductive Condition where
  | slack
  | overtension
  | runaway
  | tapeOut
  | leaderSup
  | leaderTak
  | senseMismatch
  | torqueSaturated
  | senseLost
  | ringSilence
deriving DecidableEq, Repr

/-! ## The blocks -/

/-- The Ring Port (chapter 1). -/
structure Ring where
  /-- R3: a baseline exists -/
  baseline : Bool
  /-- R9: the baseline is stale; the next good frame is a re-baseline -/
  stale : Bool
  /-- R3, R4, R6: the last good values -/
  lastSeq : Byte
  lastSup : Word16
  lastTak : Word16
  lastIdler : Word16
  supArm : Nat
  takArm : Nat
  trackSector : Nat
  trackValid : Bool
  tapePresent : Bool
  supLeader : Bool
  takLeader : Bool
  ref : Word32
  refValid : Bool
  refRunning : Bool
  /-- R5: the length L of the lapse -/
  lapse : Nat
  /-- R4: damaged frames since the last good frame, d -/
  damagedRun : Nat
  /-- R5: SENSE_LOST has been raised in this lapse -/
  senseLostRaised : Bool
  /-- R17: the last good frame was the re-baseline that follows a silence expiry -/
  afterSilence : Bool
  /-- R8: the silence timer and the microseconds it has counted -/
  timer : TimerState
  elapsed : Nat
  /-- R16: the four ring counters -/
  damaged : Nat
  missing : Nat
  repeated : Nat
  silences : Nat
  /-- R11: the frame last forwarded, the part's output -/
  out : List Byte
deriving DecidableEq, Repr

/-- R33: the message the arbiter is sending and how many of its fragments have left. -/
structure Sending where
  message : List Byte
  sent : Nat
deriving DecidableEq, Repr

/-- The Message Unit (chapter 2). -/
structure MessageUnit where
  /-- R20 -/
  assembly : AssemblyState
  buffer : List Byte
  fragments : Nat
  pauseRun : Nat
  handed : Nat
  /-- R31, R32: the two queues, oldest first, each message as its bytes -/
  replies : List (List Byte)
  notices : List (List Byte)
  sending : Option Sending
  /-- section 2.7: the four counters -/
  broken : Nat
  malformed : Nat
  overruns : Nat
  noticesLost : Nat
  /-- R31: the REPLY_OVERRUN latch -/
  overrunLatch : Bool
deriving DecidableEq, Repr

/-- R42: one block of the store. -/
structure Block where
  present : Bool
  contents : List Byte
deriving DecidableEq, Repr

/-- The Configuration Store (chapter 3). -/
structure ConfigStore where
  /-- R39: the configuration state is VALID -/
  valid : Bool
  geometry : Block
  track : Block
  speeds : Block
  loops : Block
  protect : Block
  curves : Block
  motion : Block
  chase : Block
deriving DecidableEq, Repr

/-- R51: a band entry. -/
structure Band where
  tPlay : Nat
  tWind : Nat
  tHold : Nat
  kacc : Nat
  accMax : Nat
deriving DecidableEq, Repr

/-- R51: a profile; bit n of `written` is set when band n is in the written-band set. -/
structure Profile where
  bands : Vector Band 32
  written : Word32
  complete : Bool
deriving DecidableEq, Repr

/-- R53: a present load window. -/
structure LoadWindow where
  profile : Fin 4
  first : Fin 32
  last : Fin 32
  counter : Fin 32
deriving DecidableEq, Repr

/-- The Profile Unit (chapter 4). -/
structure ProfileUnit where
  profiles : Vector Profile 4
  active : Fin 4
  window : Option LoadWindow
  /-- R55, R56: entry count and result of the PROFILE_DATA in progress -/
  count : Nat
  result : Result
deriving DecidableEq, Repr

/-- A Reel Channel (R68). -/
structure ReelChannel where
  reelAcc : Int
  idlerAcc : Int
  age : Nat
  radius : Nat
  known : Bool
  mismatch : Nat
  tMeas : Nat
  target : Nat
  tSet : Nat
  integrator : Int
  torque : Int
  saturated : Bool
  satRun : Nat
deriving DecidableEq, Repr

/-- R94: the last new word examined and whether it was accepted. -/
structure TrackWord where
  sector : Nat
  accepted : Bool
deriving DecidableEq, Repr

/-- The Position Unit (R94). -/
structure PositionUnit where
  p : Word32
  vMeas : Int
  track : TrackStatus
  lastWord : Option TrackWord
  wordTravel : Int
  anchorRun : Nat
  anchorWord : Nat
  discRun : Nat
  discWord : Nat
  trackAge : Nat
  pending : Option Word32
  accepted : Nat
  discrepant : Nat
  reanchors : Nat
  coasted : Nat
deriving DecidableEq, Repr

/-- R115: the error-tag set of a record. -/
structure ErrorTags where
  speedClamped : Bool
  untilBehind : Bool
  offsetClamped : Bool
deriving DecidableEq, Repr

/-- A motion request record (section 1.6), with the fields its kind uses; the others hold zero. -/
structure Request where
  kind : RequestKind
  tag : Byte
  /-- PLAY: speed select B -/
  speedB : Bool
  /-- WIND: reverse -/
  reverse : Bool
  /-- PLAY, WIND: the until address, Q8 sectors, when present -/
  untilAt : Option Nat
  /-- WIND: speed; LOCATE: speed limit -/
  speed : Nat
  /-- DWELL: frames -/
  frames : Nat
  /-- LOCATE: target, Q8 sectors -/
  target : Nat
  /-- CHASE: offset, Q8 sectors -/
  offset : Int
  errors : ErrorTags
deriving DecidableEq, Repr

/-- R134: the locate record. -/
structure LocateRecord where
  kind : LocateKind
  phase : Phase
  reverse : Bool
  target : Word32
  remaining : Nat
  overshoots : Nat
deriving DecidableEq, Repr

/-- The Motion Planner (chapters 7 and 8). -/
structure Planner where
  /-- R110 -/
  transport : Transport
  active : Option Request
  /-- R113, R116 -/
  queue : List Request
  hold : Bool
  /-- R127 -/
  target : Int
  /-- R128: the published reference -/
  vRef : Int
  aRef : Int
  refClass : MotionClass
  leading : Reel
  /-- R125 -/
  haltingClass : MotionClass
  /-- R129 -/
  pinch : Pinch
  /-- R131 -/
  ratio : Nat
  /-- R124 -/
  dwell : Nat
  /-- R130 -/
  mode : ChaseMode
  /-- R130: a capstan order taken from RELEASED holds the target at 0 until ENGAGED -/
  capstanWaits : Bool
  /-- R132: the capstan command as last written -/
  capCommand : Nat
  /-- R134 -/
  loc : LocateRecord
  resume : Option Nat
deriving DecidableEq, Repr

/-- R147: a cue entry. -/
structure CueEntry where
  state : CueState
  address : Nat
  direction : CueDirection
  action : CueAction
  mask : Byte
  profile : Fin 4
  oneShot : Bool
  label : Nat
deriving DecidableEq, Repr

/-- The Cue Unit (chapter 9). -/
structure CueUnit where
  entries : Vector CueEntry 32
  /-- R148: bit n set when line n is open -/
  gates : Byte
  /-- R151: the CUE_WRITE_MANY in progress -/
  writeIndex : Nat
  count : Nat
  result : Result
  conflict : Option Nat
deriving DecidableEq, Repr

/-- The Chase Unit (R163). -/
structure ChaseUnit where
  state : ChaseState
  tag : Byte
  offset : Int
  history : List Word32
  vr : Option Int
  basis : Nat
  supplied : Nat
  e : Int
  trim : Int
  trimMax : Int
  trimMin : Int
  lastOrder : ChaseOrder
  locatePending : Bool
  lastTarget : Int
  lockLosses : Nat
  framesInState : Nat
  qualRun : Nat
  absentRun : Nat
deriving DecidableEq, Repr

/-- R182: the first-fault record when filled; `reel` none for a condition of neither reel. -/
structure FaultRecord where
  condition : Condition
  reel : Option Reel
  seq : Byte
  p : Word32
  transport : Transport
  captured : Int
deriving DecidableEq, Repr

/-- The Protection Unit (R178); bit n − 1 of `flags` is condition n's flag, entry n − 1 of `counters` its counter. -/
structure ProtectionUnit where
  flags : Word16
  record : Option FaultRecord
  counters : Vector Nat 10
  slackSup : Nat
  slackTak : Nat
  overSup : Nat
  overTak : Nat
  grace : Nat
  tapeOut : Bool
  leaderSup : Bool
  leaderTak : Bool
  inhibitForward : Bool
  inhibitReverse : Bool
  settleRun : Nat
deriving DecidableEq, Repr

/-- The part, and the queue of commands that wait for it. -/
structure State where
  ring : Ring
  msg : MessageUnit
  config : ConfigStore
  profile : ProfileUnit
  supply : ReelChannel
  takeup : ReelChannel
  position : PositionUnit
  planner : Planner
  cue : CueUnit
  chase : ChaseUnit
  protection : ProtectionUnit
  /-- the number of free values drawn so far (log 7): the model's own -/
  freeDraws : Nat
  /-- the commands waiting, first in, first out: the model's own (log 1) -/
  pending : List Instr
deriving DecidableEq, Repr

/-- No step of this block stops with a fault: the spec's faults are conditions the part records (chapter 11). -/
inductive Fault where
deriving DecidableEq, Repr

/-- Reasons a command has no meaning. Raised by exec alone, for an instruction not modelled (none is): safe. -/
inductive Refusal where
  | notModelled (mnemonic : String)
deriving DecidableEq, Repr

/-! ## Updates of one block -/

def State.withRing (s : State) (x : Ring) : State := { s with ring := x }
def State.withMsg (s : State) (x : MessageUnit) : State := { s with msg := x }
def State.withConfig (s : State) (x : ConfigStore) : State := { s with config := x }
def State.withProfile (s : State) (x : ProfileUnit) : State := { s with profile := x }
def State.withSupply (s : State) (x : ReelChannel) : State := { s with supply := x }
def State.withTakeup (s : State) (x : ReelChannel) : State := { s with takeup := x }
def State.withPosition (s : State) (x : PositionUnit) : State := { s with position := x }
def State.withPlanner (s : State) (x : Planner) : State := { s with planner := x }
def State.withCue (s : State) (x : CueUnit) : State := { s with cue := x }
def State.withChase (s : State) (x : ChaseUnit) : State := { s with chase := x }
def State.withProtection (s : State) (x : ProtectionUnit) : State := { s with protection := x }
def State.withFreeDraws (s : State) (x : Nat) : State := { s with freeDraws := x }
def State.withPending (s : State) (x : List Instr) : State := { s with pending := x }

/-! ## Power-on (the values of R18, R20, R31, R32, R39, R42, R51 to R53, R69, R95, R110, R134, R147, R148, R163, R178;
values the manual does not state: logs 1, 6, 7, 8, 11, 16, 28, 33) -/

/-- R42: an absent block of n zero bytes. -/
def Block.absent (n : Nat) : Block := { present := false, contents := List.replicate n 0 }

/-- R51: an unwritten band. -/
def Band.unwritten : Band := { tPlay := 0, tWind := 0, tHold := 0, kacc := 0, accMax := 1 }

/-- R51: an empty profile. -/
def Profile.blank : Profile := { bands := Vector.replicate 32 Band.unwritten, written := 0, complete := false }

/-- R147: an EMPTY cue entry. -/
def CueEntry.blank : CueEntry :=
  { state := .empty, address := 0, direction := .fwd, action := .gateOpen, mask := 0, profile := 0, oneShot := false,
    label := 0 }

def Ring.initial : Ring :=
  { baseline := false, stale := false, lastSeq := 0, lastSup := 0, lastTak := 0, lastIdler := 0, supArm := 0, takArm := 0,
    trackSector := 0, trackValid := false, tapePresent := false, supLeader := false, takLeader := false, ref := 0,
    refValid := false, refRunning := false, lapse := 0, damagedRun := 0, senseLostRaised := false, afterSilence := false,
    timer := .stopped, elapsed := 0, damaged := 0, missing := 0, repeated := 0, silences := 0, out := [] }

def MessageUnit.initial : MessageUnit :=
  { assembly := .empty, buffer := [], fragments := 0, pauseRun := 0, handed := 0, replies := [], notices := [],
    sending := none, broken := 0, malformed := 0, overruns := 0, noticesLost := 0, overrunLatch := false }

def ConfigStore.initial : ConfigStore :=
  { valid := false, geometry := Block.absent 21, track := Block.absent 10, speeds := Block.absent 16,
    loops := Block.absent 16, protect := Block.absent 19, curves := Block.absent 51, motion := Block.absent 12,
    chase := Block.absent 30 }

def ProfileUnit.initial : ProfileUnit :=
  { profiles := Vector.replicate 4 Profile.blank, active := 0, window := none, count := 0, result := .ok }

def ReelChannel.initial : ReelChannel :=
  { reelAcc := 0, idlerAcc := 0, age := 0, radius := 0, known := false, mismatch := 0, tMeas := 0, target := 0, tSet := 0,
    integrator := 0, torque := 0, saturated := false, satRun := 0 }

/-- R94, R95: the sector numbers of the two empty runs are the model's choice (log 36). -/
def PositionUnit.initial : PositionUnit :=
  { p := 0, vMeas := 0, track := .absent, lastWord := none, wordTravel := 0, anchorRun := 0, anchorWord := 0, discRun := 0,
    discWord := 0, trackAge := 0, pending := none, accepted := 0, discrepant := 0, reanchors := 0, coasted := 0 }

def LocateRecord.initial : LocateRecord :=
  { kind := .none, phase := .none, reverse := false, target := 0, remaining := 0, overshoots := 0 }

def Planner.initial : Planner :=
  { transport := .safe, active := none, queue := [], hold := false, target := 0, vRef := 0, aRef := 0, refClass := .hold,
    leading := .takeup, haltingClass := .hold, pinch := .released, ratio := 4096, dwell := 0, mode := .none,
    capstanWaits := false, capCommand := 0, loc := LocateRecord.initial, resume := none }

def CueUnit.initial : CueUnit :=
  { entries := Vector.replicate 32 CueEntry.blank, gates := 0, writeIndex := 0, count := 0, result := .ok,
    conflict := none }

def ChaseUnit.initial : ChaseUnit :=
  { state := .idle, tag := 0, offset := 0, history := [], vr := none, basis := 0, supplied := 0, e := 0, trim := 0,
    trimMax := 0, trimMin := 0, lastOrder := .none, locatePending := false, lastTarget := 0, lockLosses := 0,
    framesInState := 0, qualRun := 0, absentRun := 0 }

def ProtectionUnit.initial : ProtectionUnit :=
  { flags := 0, record := none, counters := Vector.replicate 10 0, slackSup := 0, slackTak := 0, overSup := 0, overTak := 0,
    grace := 0, tapeOut := false, leaderSup := false, leaderTak := false, inhibitForward := false, inhibitReverse := false,
    settleRun := 0 }

/-- The part right after power-on: NOT_VALID, SAFE, the silence timer STOPPED. -/
def State.reset : State :=
  { ring := Ring.initial, msg := MessageUnit.initial, config := ConfigStore.initial, profile := ProfileUnit.initial,
    supply := ReelChannel.initial, takeup := ReelChannel.initial, position := PositionUnit.initial,
    planner := Planner.initial, cue := CueUnit.initial, chase := ChaseUnit.initial,
    protection := ProtectionUnit.initial, freeDraws := 0, pending := [] }

end Sys2Proof.Machine
end

