-- ==== Sys2Proof/Machine/Flags.lean ====
section
/-! DEFINITION. The arithmetic of the part (00_scope.md section 3.2, 3.3): named roundings, clamps, saturating counters, and
words read as signed. -/

namespace Sys2Proof.Machine

/-- "round": to the nearest integer, ties away from zero; `d` is positive where the manual uses it. -/
def roundDiv (x d : Int) : Int :=
  if 0 ≤ x then (2 * x + d) / (2 * d) else -((2 * (-x) + d) / (2 * d))

/-- "trunc": toward zero. -/
def truncDiv (x d : Int) : Int := x.tdiv d

/-- "floor": toward minus infinity. -/
def floorDiv (x d : Int) : Int := x.fdiv d

/-- "ceil" of a quotient of naturals (R22, R136). -/
def ceilDiv (x d : Nat) : Nat := (x + d - 1) / d

/-- clamp(x, lo..hi) of section 3.2. -/
def clampTo (lo hi x : Int) : Int := if x < lo then lo else if hi < x then hi else x

/-- clamp(x, ±limit) of section 3.2. -/
def clampSym (limit : Int) (x : Int) : Int := clampTo (-limit) limit x

/-- Section 3.3: a 16-bit counter stops at 65535. -/
def sat16 (n : Nat) : Nat := min n 65535

/-- Section 3.3: one more, saturating. -/
def inc16 (n : Nat) : Nat := sat16 (n + 1)

/-- A count reaches its limit at this step: it was below, and now it is not. -/
def reaches (old new limit : Nat) : Bool := old < limit && limit ≤ new

/-- R6: the new count minus the old, modulo 65536, read as signed. -/
def rawDelta (new old : Word16) : Int := (new - old).toInt

/-- R71: a delta mirrored when its flag is set. -/
def mirror (flag : Bool) (d : Int) : Int := if flag then -d else d

/-- R99: a count position brought into P's range modulo 2^32. -/
def wrapPosition (x : Int) : Word32 := BitVec.ofInt 32 x

/-- R99: the difference of two count positions, modulo 2^32, read as signed. -/
def positionDiff (a b : Word32) : Int := (a - b).toInt

/-- R128: v moved toward the target by at most `lim`. -/
def moveToward (lim target v : Int) : Int :=
  if target - v ≤ lim ∧ v - target ≤ lim then target else if v < target then v + lim else v - lim

/-- Speed in a direction: positive forward (section 3.1). -/
def directed (reverse : Bool) (speed : Int) : Int := if reverse then -speed else speed

/-- R137, R139: `d` is non-zero and its sign is opposite to the direction. -/
def against (reverse : Bool) (d : Int) : Bool := if reverse then decide (0 < d) else decide (d < 0)

/-- The sign of `d` is the direction's, and `d` is non-zero. -/
def along (reverse : Bool) (d : Int) : Bool := if reverse then decide (d < 0) else decide (0 < d)

/-- One as 1, for reply bytes and status bits. -/
def bit (b : Bool) : Nat := if b then 1 else 0

end Sys2Proof.Machine
end

