-- ==== Sys2Proof/Machine/Operands.lean ====
section
/-! DEFINITION. The operand forms of the ring (section 1.6): little-endian fields, the frame's bytes and its check, the
messages' headers, the records carried in them, the codes, and the parameters read from the configuration blocks. -/

namespace Sys2Proof.Machine

/-! ## Little-endian fields (section 3.2) -/

/-- The low n bytes of x, low byte first. -/
def leBytes : Nat → Nat → List Byte
  | 0, _ => []
  | n + 1, x => BitVec.ofNat 8 x :: leBytes n (x / 256)

/-- Bytes read as an unsigned number, low byte first. -/
def leNat : List Byte → Nat
  | [] => 0
  | b :: bs => b.toNat + 256 * leNat bs

/-- A signed number in n bytes, two's complement. -/
def leIntBytes (n : Nat) (x : Int) : List Byte := leBytes n (x % (256 ^ n : Nat)).toNat

/-- The unsigned field of n bytes at an offset; bytes that are not there read as zero. -/
def natField (bs : List Byte) (off n : Nat) : Nat := leNat ((bs.drop off).take n)

/-- The signed field of n bytes at an offset, two's complement. -/
def intField (bs : List Byte) (off n : Nat) : Int :=
  let x := natField bs off n
  if 2 * x < 256 ^ n then (x : Int) else (x : Int) - (256 ^ n : Nat)

/-- Parameter byte i of a command; 0 where the command is shorter. -/
def paramByte (params : List Byte) (i : Nat) : Byte := params.getD i 0

/-! ## Frame check (R19) -/

/-- R19: one data bit, most significant register bit first. -/
def crcBit (r : Word16) (d : Bool) : Word16 := if r.msb != d then (r <<< 1) ^^^ 0x8005#16 else r <<< 1

/-- R19: one byte, most significant bit first. -/
def crcByte (r : Word16) (b : Byte) : Word16 :=
  [7, 6, 5, 4, 3, 2, 1, 0].foldl (fun r i => crcBit r (b.getLsbD i)) r

/-- R19: the CRC over a run of bytes, from FFFFh, with no final inversion. -/
def crc (bs : List Byte) : Word16 := bs.foldl crcByte 0xFFFF#16

/-! ## The servo frame (section 1.6) -/

def word16Bytes (w : Word16) : List Byte := leBytes 2 w.toNat
def word32Bytes (w : Word32) : List Byte := leBytes 4 w.toNat
def quadBytes (q : Quad) : List Byte := [q.b0, q.b1, q.b2, q.b3]

/-- Bytes 0 to 27: what the part forwards as it arrived (R11). -/
def frameHead (f : Frame) : List Byte :=
  [f.seq, f.kind] ++ word16Bytes f.supTach ++ word16Bytes f.takTach ++ word16Bytes f.idler ++ word16Bytes f.supArm ++
    word16Bytes f.takArm ++ word32Bytes f.track ++ [f.edges, f.byte17] ++ word32Bytes f.ref ++ [f.refFlags, f.cmdMark] ++
    quadBytes f.cmdData

/-- Bytes 28 to 45: what the part writes. -/
def frameTail (f : Frame) : List Byte :=
  word16Bytes f.supTorque ++ word16Bytes f.takTorque ++ word16Bytes f.capSpeed ++ [f.driveFlags, f.gates, f.rplMark] ++
    quadBytes f.rplData ++ [f.status0] ++ word16Bytes f.status1 ++ word16Bytes f.bytes44

/-- Bytes 0 to 45: the run the check covers. -/
def frameBody (f : Frame) : List Byte := frameHead f ++ frameTail f

/-- All 48 bytes. -/
def frameBytes (f : Frame) : List Byte := frameBody f ++ word16Bytes f.crc

/-- R2: the stored check equals the computed one. -/
def frameChecks (f : Frame) : Bool := f.crc == crc (frameBody f)

/-- R1: KIND of a servo frame. -/
def servoKind : Byte := 0xA5

/-- R6: an arm sample above 4095 is taken as 4095. -/
def armSample (w : Word16) : Nat := min w.toNat 4095

/-! ## Codes (section 1.6, 2.6) -/

def Result.code : Result → Byte
  | .ok => 0x00
  | .clamped => 0x01
  | .unknownCommand => 0x10
  | .badLength => 0x11
  | .badValue => 0x12
  | .wrongState => 0x13
  | .queueFull => 0x14
  | .configInvalid => 0x15
  | .inUse => 0x16
  | .crcMismatch => 0x17
  | .noWindow => 0x18
  | .profileIncomplete => 0x19
  | .duplicate => 0x1A
  | .noResume => 0x1B
  | .tapeOut => 0x1C
  | .broken => 0x1D
  | .checkFailed => 0x1E

def Transport.code : Transport → Byte
  | .safe => 0
  | .braked => 1
  | .stopped => 2
  | .play => 3
  | .wind => 4
  | .locate => 5
  | .chase => 6
  | .halting => 7
  | .estop => 8

def ChaseState.code : ChaseState → Byte
  | .idle => 0
  | .standby => 1
  | .acquire => 2
  | .slew => 3
  | .phase => 4
  | .locked => 5
  | .stable => 6
  | .holdover => 7

def TrackStatus.code : TrackStatus → Byte
  | .absent => 0
  | .coasting => 1
  | .tracking => 2

def RequestKind.code : RequestKind → Byte
  | .play => 1
  | .wind => 2
  | .locate => 3
  | .chase => 4
  | .stop => 5
  | .dwell => 6

/-- Section 1.6: the kind a record's byte 0 names; other values are refused (R114). -/
def requestKindOf (n : Nat) : Option RequestKind :=
  match n with
  | 1 => some .play
  | 2 => some .wind
  | 3 => some .locate
  | 4 => some .chase
  | 5 => some .stop
  | 6 => some .dwell
  | _ => none

def EndResult.code : EndResult → Byte
  | .completed => 0
  | .superseded => 1
  | .flushed => 2
  | .fault => 3
  | .timeout => 4
  | .unsettled => 5
  | .noPosition => 6
  | .cueHalt => 7
  | .refLost => 8
  | .endOfTape => 9

/-- R132. -/
def MotionClass.code : MotionClass → Byte
  | .hold => 0
  | .play => 1
  | .wind => 2
  | .locate => 3

/-- R132. -/
def Pinch.code : Pinch → Byte
  | .released => 0
  | .engaging _ => 1
  | .engaged => 2
  | .releasing _ => 3

/-- R132: the count of ENGAGING or RELEASING; 0 otherwise. -/
def Pinch.count : Pinch → Nat
  | .engaging n => n
  | .releasing n => n
  | _ => 0

/-- R134. -/
def LocateKind.code : LocateKind → Byte
  | .none => 0
  | .request => 1
  | .internal => 2

/-- R134. -/
def Phase.code : Phase → Byte
  | .none => 0
  | .wait => 1
  | .cruise => 2
  | .decel => 3
  | .park => 4
  | .recover => 5

/-- R93, R132. -/
def reelCode : Reel → Byte
  | .supply => 0
  | .takeup => 1

/-- R182: FFh for a condition of neither reel. -/
def reelByte : Option Reel → Byte
  | some r => reelCode r
  | none => 0xFF

/-- R178: the code less one, the bit of the flags word and the index of the counter. -/
def Condition.index : Condition → Nat
  | .slack => 0
  | .overtension => 1
  | .runaway => 2
  | .tapeOut => 3
  | .leaderSup => 4
  | .leaderTak => 5
  | .senseMismatch => 6
  | .torqueSaturated => 7
  | .senseLost => 8
  | .ringSilence => 9

/-- R178. -/
def Condition.code (c : Condition) : Byte := BitVec.ofNat 8 (c.index + 1)

/-- R156. -/
def CueState.code : CueState → Byte
  | .empty => 0
  | .armed => 1
  | .disarmed => 2
  | .spent => 3

def CueDirection.code : CueDirection → Nat
  | .fwd => 0
  | .rev => 1
  | .either => 2

def CueAction.code : CueAction → Nat
  | .gateOpen => 0
  | .gateClose => 1
  | .notice => 2
  | .halt => 3
  | .profile => 4

/-- R115. -/
def errorByte (e : ErrorTags) : Byte :=
  BitVec.ofNat 8 (bit e.speedClamped + 2 * bit e.untilBehind + 4 * bit e.offsetClamped)

/-! ## Messages (section 1.6, Message header) -/

/-- R22, R27, R30: the CODE of a reply, BFh when CODE is above 3Fh. -/
def replyCode (code : Byte) : Byte := if code.toNat ≤ 0x3F then code + 0x80 else 0xBF

/-- A reply's bytes: header, RESULT, data. -/
def replyMessage (code tag : Byte) (result : Result) (data : List Byte) : List Byte :=
  [replyCode code, tag, BitVec.ofNat 8 (1 + data.length), result.code] ++ data

/-- A notice's bytes: header and data (R32). -/
def noticeMessage (code subject : Byte) (data : List Byte) : List Byte :=
  [code, subject, BitVec.ofNat 8 data.length] ++ data

/-- R22: N, the fragments a message of this LEN needs. -/
def fragmentsNeeded (len : Nat) : Nat := ceilDiv (3 + len) 4

/-- Fragment i of a message: bytes 4i to 4i + 3, padded with zeros (section 1.6, Fragment marks). -/
def fragment (m : List Byte) (i : Nat) : Quad :=
  { b0 := m.getD (4 * i) 0, b1 := m.getD (4 * i + 1) 0, b2 := m.getD (4 * i + 2) 0, b3 := m.getD (4 * i + 3) 0 }

/-- The mark of fragment i of a message (section 1.6): ONLY, FIRST, LAST or MORE. -/
def fragmentMark (m : List Byte) (i : Nat) : Byte :=
  let n := ceilDiv m.length 4
  if n ≤ 1 then 4 else if i = 0 then 1 else if i + 1 = n then 3 else 2

/-- Section 1.6: the codes with a command assigned. -/
def assignedCodes : List Byte :=
  [0x01, 0x08, 0x09, 0x0F, 0x10, 0x11, 0x12, 0x13, 0x14, 0x18, 0x19, 0x1A, 0x1B, 0x1C, 0x20, 0x21, 0x22, 0x28, 0x29, 0x2A,
    0x2B, 0x2C, 0x2D, 0x30, 0x31, 0x32, 0x33, 0x34, 0x35, 0x38, 0x39, 0x3A, 0x3B, 0x3C]

/-- R29, R30: a command is assigned to the code. -/
def codeAssigned (code : Byte) : Bool := assignedCodes.contains code

/-- The clear option of a reading command: bit 0 of the option byte (R17, R37, R109, R176, R187). -/
def clearOption (params : List Byte) : Bool := (paramByte params 0).getLsbD 0

/-! ## Records in messages (section 1.6) -/

/-- R51, R56: a band entry's nine bytes, as carried. -/
def bandOf (bs : List Byte) : Band :=
  { tPlay := natField bs 0 2, tWind := natField bs 2 2, tHold := natField bs 4 2, kacc := natField bs 6 2,
    accMax := natField bs 8 1 }

/-- R56 step 2. -/
def clampBand (b : Band) : Band :=
  { tPlay := min b.tPlay Config.tensionCeil, tWind := min b.tWind Config.tensionCeil,
    tHold := min b.tHold Config.tensionCeil, kacc := min b.kacc 4095, accMax := max b.accMax 1 }

/-- R61: a band entry's nine bytes. -/
def bandBytes (b : Band) : List Byte :=
  leBytes 2 b.tPlay ++ leBytes 2 b.tWind ++ leBytes 2 b.tHold ++ leBytes 2 b.kacc ++ leBytes 1 b.accMax

/-- Section 1.6: the direction a cue entry's bits 0 and 1 name. -/
def cueDirectionOf (n : Nat) : Option CueDirection :=
  match n with
  | 0 => some .fwd
  | 1 => some .rev
  | 2 => some .either
  | _ => none

/-- Section 1.6: the action a cue entry's bits 2 to 4 name. -/
def cueActionOf (n : Nat) : Option CueAction :=
  match n with
  | 0 => some .gateOpen
  | 1 => some .gateClose
  | 2 => some .notice
  | 3 => some .halt
  | 4 => some .profile
  | _ => none

/-- A gate action carries a mask 1..255, the others 0 (section 1.6). -/
def maskSuits (a : CueAction) (m : Byte) : Bool :=
  match a with
  | .gateOpen | .gateClose => m != 0
  | _ => m == 0

/-- R150 step 3: the entry eight bytes carry, with the state it is to take, or none where they fail the test. -/
def cueEntryOf (armed : Bool) (bs : List Byte) : Option CueEntry :=
  let b := natField bs 4 1
  let mask := bs.getD 5 0
  match cueDirectionOf (b % 4), cueActionOf (b / 4 % 8) with
  | some d, some a =>
    if maskSuits a mask then
      some { state := if armed then .armed else .disarmed, address := natField bs 0 4, direction := d, action := a,
             mask := mask, profile := Fin.ofNat 4 (b / 64), oneShot := b / 32 % 2 == 1, label := natField bs 6 2 }
    else none
  | _, _ => none

/-- R156: a cue entry's eight bytes. -/
def cueEntryBytes (e : CueEntry) : List Byte :=
  leBytes 4 e.address ++
    [BitVec.ofNat 8 (e.direction.code + 4 * e.action.code + 32 * bit e.oneShot + 64 * e.profile.val), e.mask] ++
    leBytes 2 e.label

/-! ## The configuration blocks (R42, section 3.3) -/

/-- R42: the content length of block id 1..8. -/
def blockLength (id : Nat) : Nat :=
  match id with
  | 1 => 21
  | 2 => 10
  | 3 => 16
  | 4 => 16
  | 5 => 19
  | 6 => 51
  | 7 => 12
  | 8 => 30
  | _ => 0

/-- R42: the block of an id 1..8; ids outside read block 8 and are refused before (R44, R50). -/
def ConfigStore.block (c : ConfigStore) (id : Nat) : Block :=
  match id with
  | 1 => c.geometry
  | 2 => c.track
  | 3 => c.speeds
  | 4 => c.loops
  | 5 => c.protect
  | 6 => c.curves
  | 7 => c.motion
  | _ => c.chase

def ConfigStore.setBlock (c : ConfigStore) (id : Nat) (b : Block) : ConfigStore :=
  match id with
  | 1 => { c with geometry := b }
  | 2 => { c with track := b }
  | 3 => { c with speeds := b }
  | 4 => { c with loops := b }
  | 5 => { c with protect := b }
  | 6 => { c with curves := b }
  | 7 => { c with motion := b }
  | 8 => { c with chase := b }
  | _ => c

/-- A field of section 3.3: offset, bytes, signed, and its range. -/
structure FieldRange where
  off : Nat
  bytes : Nat
  signed : Bool
  lo : Int
  hi : Int
deriving DecidableEq, Repr

/-- R44 step 6: the field lies in its range. -/
def fieldInRange (bs : List Byte) (r : FieldRange) : Bool :=
  let x := if r.signed then intField bs r.off r.bytes else (natField bs r.off r.bytes : Int)
  decide (r.lo ≤ x ∧ x ≤ r.hi)

def unsignedField (off bytes : Nat) (lo hi : Int) : FieldRange := ⟨off, bytes, false, lo, hi⟩
def signedField (off bytes : Nat) (lo hi : Int) : FieldRange := ⟨off, bytes, true, lo, hi⟩

/-- Section 3.3: the fields of a block in table order (block 6 apart, R43). -/
def blockFields (id : Nat) : List FieldRange :=
  match id with
  | 1 => [unsignedField 0 4 1 16777215, unsignedField 4 4 1 16777215, unsignedField 8 2 100 4000, unsignedField 10 2 100 4000,
      unsignedField 12 2 100 4000, unsignedField 14 2 1 1000, unsignedField 16 2 16 16384, unsignedField 18 2 1 65535,
      unsignedField 20 1 0 31]
  | 2 => [unsignedField 0 2 16 4095, signedField 2 4 (-8388608) 8388607, unsignedField 6 2 0 1023, unsignedField 8 2 1 65535]
  | 3 => [unsignedField 0 2 1 32767, unsignedField 2 2 1 32767, unsignedField 4 2 1 65535, unsignedField 6 2 1 65535,
      unsignedField 8 2 1 65535, unsignedField 10 2 1 32767, unsignedField 12 2 0 65535, unsignedField 14 2 0 65535]
  | 4 => [unsignedField 0 2 0 65535, unsignedField 2 2 0 65535, unsignedField 4 4 0 100000000, unsignedField 8 2 0 65535,
      unsignedField 10 2 1 2000, unsignedField 12 2 1 32767, unsignedField 14 2 1 32767]
  | 5 => [unsignedField 0 2 0 2000, unsignedField 2 2 1 65535, unsignedField 4 2 0 65535, unsignedField 6 2 0 2000,
      unsignedField 8 2 1 65535, unsignedField 10 2 1 32767, unsignedField 12 1 1 32, unsignedField 13 2 100 65535,
      unsignedField 15 2 1 65535, unsignedField 17 2 1 65535]
  | 7 => [unsignedField 0 1 0 255, unsignedField 1 1 0 255, unsignedField 2 2 0 65535, unsignedField 4 2 0 65535,
      unsignedField 6 2 0 32767, signedField 8 4 (-8388608) 8388607]
  | 8 => [unsignedField 0 4 1 16777215, unsignedField 4 4 1 16777215, unsignedField 8 4 0 16777215, unsignedField 12 4 1 16777215,
      unsignedField 16 2 1 65535, unsignedField 18 2 1 65535, unsignedField 20 2 0 4095, unsignedField 22 2 0 409,
      unsignedField 24 2 1 65535, unsignedField 26 4 0 16777215]
  | _ => []

/-- R43: point n (0..33) of block 6, SUP_P0 … SUP_P16, TAK_P0 … TAK_P16. -/
def curvePoint (bs : List Byte) (n : Nat) : Nat :=
  let j := n / 2
  if n % 2 = 0 then natField bs (3 * j) 1 + 256 * (natField bs (3 * j + 1) 1 % 16)
  else natField bs (3 * j + 1) 1 / 16 + 16 * natField bs (3 * j + 2) 1

/-- R44 step 6: for each field of a block in order, whether it lies in its range. -/
def fieldTests (id : Nat) (bs : List Byte) : List Bool :=
  if id = 6 then (List.range 34).map fun n => decide (curvePoint bs n ≤ 2000)
  else (blockFields id).map (fieldInRange bs)

/-- R44: the number of the lowest-numbered field outside its range, if any. -/
def badField (id : Nat) (bs : List Byte) : Option Nat :=
  ((fieldTests id bs).findIdx? (· == false)).map (· + 1)

/-! ## Parameters, read from the stored contents (R40) -/

def State.rgain (s : State) : Reel → Nat
  | .supply => natField s.config.geometry.contents 0 4
  | .takeup => natField s.config.geometry.contents 4 4
def State.rHub (s : State) : Nat := natField s.config.geometry.contents 8 2
def State.rMax (s : State) : Nat := natField s.config.geometry.contents 10 2
def State.rStart (s : State) : Nat := natField s.config.geometry.contents 12 2
def State.bandW (s : State) : Nat := natField s.config.geometry.contents 14 2
def State.rwin (s : State) : Nat := natField s.config.geometry.contents 16 2
def State.rstale (s : State) : Nat := natField s.config.geometry.contents 18 2
def State.senseFlags (s : State) : Byte := BitVec.ofNat 8 (natField s.config.geometry.contents 20 1)
def State.mirrorReel (s : State) : Reel → Bool
  | .supply => s.senseFlags.getLsbD 0
  | .takeup => s.senseFlags.getLsbD 1
def State.mirrorIdler (s : State) : Bool := s.senseFlags.getLsbD 2
def State.torqueSense (s : State) : Reel → Bool
  | .supply => s.senseFlags.getLsbD 3
  | .takeup => s.senseFlags.getLsbD 4

def State.sectorLen (s : State) : Nat := natField s.config.track.contents 0 2
def State.readerOffset (s : State) : Int := intField s.config.track.contents 2 4
def State.snapWindow (s : State) : Nat := natField s.config.track.contents 6 2
def State.trackAgeLimit (s : State) : Nat := natField s.config.track.contents 8 2

def State.playSpeed (s : State) (b : Bool) : Nat := natField s.config.speeds.contents (if b then 2 else 0) 2
def State.windMax (s : State) : Nat := natField s.config.speeds.contents 4 2
def State.jogMax (s : State) : Nat := natField s.config.speeds.contents 6 2
def State.creepSpeed (s : State) : Nat := natField s.config.speeds.contents 8 2
def State.capstanMax (s : State) : Nat := natField s.config.speeds.contents 10 2
def State.engageFrames (s : State) : Nat := natField s.config.speeds.contents 12 2
def State.releaseFrames (s : State) : Nat := natField s.config.speeds.contents 14 2

def State.kp (s : State) : Nat := natField s.config.loops.contents 0 2
def State.ki (s : State) : Nat := natField s.config.loops.contents 2 2
def State.iLim (s : State) : Nat := natField s.config.loops.contents 4 4
def State.kv (s : State) : Nat := natField s.config.loops.contents 8 2
def State.tensionSlew (s : State) : Nat := natField s.config.loops.contents 10 2
def State.torqueLim (s : State) : Reel → Nat
  | .supply => natField s.config.loops.contents 12 2
  | .takeup => natField s.config.loops.contents 14 2

def State.slackLevel (s : State) : Nat := natField s.config.protect.contents 0 2
def State.slackFrames (s : State) : Nat := natField s.config.protect.contents 2 2
def State.slackGrace (s : State) : Nat := natField s.config.protect.contents 4 2
def State.overLevel (s : State) : Nat := natField s.config.protect.contents 6 2
def State.overFrames (s : State) : Nat := natField s.config.protect.contents 8 2
def State.runawayCounts (s : State) : Nat := natField s.config.protect.contents 10 2
def State.holdLimit (s : State) : Nat := natField s.config.protect.contents 12 1
def State.silenceUs (s : State) : Nat := natField s.config.protect.contents 13 2
def State.satFrames (s : State) : Nat := natField s.config.protect.contents 15 2
def State.estopSettle (s : State) : Nat := natField s.config.protect.contents 17 2

/-- Point i (0..16) of a reel's curve (R43, R72). -/
def State.curve (s : State) (r : Reel) (i : Nat) : Nat :=
  match r with
  | .supply => curvePoint s.config.curves.contents i
  | .takeup => curvePoint s.config.curves.contents (17 + i)

def State.holdHigh (s : State) : Nat := natField s.config.motion.contents 0 1
def State.holdLow (s : State) : Nat := natField s.config.motion.contents 1 1
def State.locK (s : State) : Nat := natField s.config.motion.contents 2 2
def State.locOffset (s : State) : Nat := natField s.config.motion.contents 4 2
def State.parkWindow (s : State) : Nat := natField s.config.motion.contents 6 2
def State.gateShift (s : State) : Int := intField s.config.motion.contents 8 4

def State.acqWindow (s : State) : Nat := natField s.config.chase.contents 0 4
def State.phaseWindow (s : State) : Nat := natField s.config.chase.contents 4 4
def State.lockWindow (s : State) : Nat := natField s.config.chase.contents 8 4
def State.lossWindow (s : State) : Nat := natField s.config.chase.contents 12 4
def State.lockFrames (s : State) : Nat := natField s.config.chase.contents 16 2
def State.stableFrames (s : State) : Nat := natField s.config.chase.contents 18 2
def State.kph (s : State) : Nat := natField s.config.chase.contents 20 2
def State.trimLim (s : State) : Nat := natField s.config.chase.contents 22 2
def State.refHold (s : State) : Nat := natField s.config.chase.contents 24 2
def State.acqLead (s : State) : Nat := natField s.config.chase.contents 26 4

/-! ## Schedules (log 2) -/

/-- The order taken where a schedule is not legal: the order in which the chapters name the units. -/
def canonicalOrder : List Task :=
  [.command, .supplyWindow, .takeupWindow, .position, .planner, .cue, .chase, .protection, .settle, .supplyTorque,
    .takeupTorque]

/-- a stands before b in the list. -/
def before (l : List Task) (a b : Task) : Bool := decide (l.idxOf a < l.idxOf b)

/-- A schedule is legal when it holds each unit's work once, and keeps the orders the manual fixes: the record is published
before it is acted on (R106, R70), a channel's window before its torque (R70), both T_meas before the frame tests (section
11.2). -/
def scheduleLegal (sc : Schedule) : Bool :=
  decide (sc.order.length = canonicalOrder.length) && canonicalOrder.all (fun t => sc.order.contains t) &&
    [Task.planner, .cue, .chase, .supplyTorque, .takeupTorque].all (before sc.order .position) &&
    before sc.order .supplyWindow .supplyTorque && before sc.order .takeupWindow .takeupTorque &&
    before sc.order .supplyWindow .protection && before sc.order .takeupWindow .protection

/-- The order one arrival's work is done in. -/
def scheduleTasks (sc : Schedule) : List Task := if scheduleLegal sc then sc.order else canonicalOrder

end Sys2Proof.Machine
end

