-- ==== Sys2Proof/Machine/Ops.lean ====
section
/-! DEFINITION. The named operations the units share: replies and notices, free values, the reel channels, positions and
sectors, profile lookups, gate lines, the pinch, the target speed, entry into a rest state. -/

namespace Sys2Proof.Machine

/-! ## Free values (log 7) -/

/-- A value written in, or held as, a signed 32-bit quantity: itself where it fits, and where it does not, a value the
manual does not state. -/
def fit32 (x : Int) (s : State) : Int × State :=
  if inRange32 x then (x, s) else ((Config.freeInt32 s.freeDraws).toInt, s.withFreeDraws (s.freeDraws + 1))

/-- A value the manual leaves open, as a natural number; its user keeps what limit the manual sets. -/
def drawNat (s : State) : Nat × State := ((Config.freeInt32 s.freeDraws).toNat, s.withFreeDraws (s.freeDraws + 1))

/-! ## Replies and notices (R29 to R32) -/

/-- R29, R31: a message or a reply is lost to a full reply queue. -/
def countOverrun (s : State) : State :=
  s.withMsg { s.msg with overruns := inc16 s.msg.overruns, overrunLatch := true }

/-- R31: a reply is queued, or lost where the queue holds 4. -/
def queueReply (m : List Byte) (s : State) : State :=
  if s.msg.replies.length < Config.replyCapacity then s.withMsg { s.msg with replies := s.msg.replies ++ [m] }
  else countOverrun s

/-- R31: the reply to a command is queued. -/
def reply (code tag : Byte) (result : Result) (data : List Byte) (s : State) : State :=
  queueReply (replyMessage code tag result data) s

/-- R32: a notice is queued, or dropped and counted where the queue holds 32. -/
def queueNotice (code subject : Byte) (data : List Byte) (s : State) : State :=
  if s.msg.notices.length < Config.noticeCapacity then
    s.withMsg { s.msg with notices := s.msg.notices ++ [noticeMessage code subject data] }
  else s.withMsg { s.msg with noticesLost := inc16 s.msg.noticesLost }

/-- R20: the assembly becomes EMPTY; the buffer holds no bytes and the pause run is zero. -/
def clearAssembly (s : State) : State :=
  s.withMsg { s.msg with assembly := .empty, buffer := [], fragments := 0, pauseRun := 0, handed := 0 }

/-- R27, R28: the count of entries written by the streamed message in progress, 0 where none was handed over or the command
is not streamed. -/
def writtenCount (s : State) : Byte :=
  if s.msg.handed = 0 then 0
  else if s.msg.buffer.getD 0 0 = 0x19 then BitVec.ofNat 8 s.profile.count
  else if s.msg.buffer.getD 0 0 = 0x31 then BitVec.ofNat 8 s.cue.count
  else 0

/-- R23, R26, R27: a break event: a message in ASSEMBLING is broken and answered, one being discarded is dropped. -/
def breakAssembly (s : State) : State :=
  match s.msg.assembly with
  | .empty => s
  | .discarding => clearAssembly s
  | .assembling =>
    let s1 := s.withMsg { s.msg with broken := inc16 s.msg.broken }
    reply (s.msg.buffer.getD 0 0) (s.msg.buffer.getD 1 0) .broken [writtenCount s] (clearAssembly s1)

/-- R29: the completion event of a message: the assembly is EMPTY, a full reply queue discards the message unexecuted, and
otherwise the command runs. A LEN above 61 never passes the framing check and is refused (R22, log 4). -/
def atCompletion (code tag : Byte) (params : List Byte) (run : State → State) (s : State) : State :=
  if Config.maxLen < params.length then reply code tag .badLength [] (clearAssembly s)
  else if s.msg.replies.length < Config.replyCapacity then run (clearAssembly s)
  else countOverrun (clearAssembly s)

/-! ## Reel channels -/

def State.channel (s : State) : Reel → ReelChannel
  | .supply => s.supply
  | .takeup => s.takeup

def State.withChannel (s : State) (r : Reel) (c : ReelChannel) : State :=
  match r with
  | .supply => s.withSupply c
  | .takeup => s.withTakeup c

/-- R69, R89: entry into SAFE, BRAKED or ESTOP, and CONFIG_OPEN: the command and what it is made of become zero. -/
def zeroTorque (c : ReelChannel) : ReelChannel :=
  { c with target := 0, tSet := 0, integrator := 0, torque := 0, saturated := false, satRun := 0 }

/-- R73, R74, R77: the radius window is emptied. -/
def emptyWindow (c : ReelChannel) : ReelChannel := { c with reelAcc := 0, idlerAcc := 0, age := 0 }

/-- R69: a commit forgets the radius and empties the window. -/
def forgetRadius (rStart : Nat) (c : ReelChannel) : ReelChannel :=
  zeroTorque { emptyWindow c with radius := rStart, known := false, mismatch := 0 }

/-! ## Positions (R99) -/

/-- R99: S(P), Q8 sectors, exact. -/
def sectorOf (s : State) (p : Word32) : Int := floorDiv ((p.toInt - s.readerOffset) * 256) s.sectorLen

/-- R99: S of P as held. -/
def sectorPos (s : State) : Int := sectorOf s s.position.p

/-- R99: E(n), the leading boundary of sector n. -/
def boundary (s : State) (n : Nat) : Word32 := wrapPosition (n * s.sectorLen + s.readerOffset)

/-- R99: the count position of an address in Q8 sectors. -/
def countOf (s : State) (t : Int) : Word32 := wrapPosition (floorDiv (t * s.sectorLen) 256 + s.readerOffset)

/-! ## Profile lookups (R62 to R65) -/

def State.activeProfile (s : State) : Profile := s.profile.profiles[s.profile.active]

/-- A band entry of a profile by number; a number above 31 reads band 31 (none is used: R62). -/
def Profile.band (p : Profile) (b : Nat) : Band := p.bands[min b 31]

/-- R62: the band of a radius. -/
def bandOfRadius (s : State) (r : Nat) : Nat := min 31 ((r - s.rHub) / s.bandW)

/-- R63: the column a class selects. -/
def columnOf (c : MotionClass) (b : Band) : Nat :=
  match c with
  | .hold => b.tHold
  | .play => b.tPlay
  | .wind => b.tWind
  | .locate => b.tWind

/-- R63: the tension target at a radius, for a class. -/
def tensionTarget (s : State) (c : MotionClass) (r : Nat) : Nat :=
  let b := bandOfRadius s r
  let t := columnOf c (s.activeProfile.band b)
  if b < 31 then
    let t1 := columnOf c (s.activeProfile.band (b + 1))
    let o : Int := (r : Int) - s.rHub - b * s.bandW
    ((t : Int) + truncDiv (((t1 : Int) - t) * o) s.bandW).toNat
  else t

/-- R64: KACC of the band of a radius. -/
def accelGain (s : State) (r : Nat) : Nat := (s.activeProfile.band (bandOfRadius s r)).kacc

/-- R65: a_lim. -/
def accelLimit (s : State) : Nat :=
  min (s.activeProfile.band (bandOfRadius s s.supply.radius)).accMax
    (s.activeProfile.band (bandOfRadius s s.takeup.radius)).accMax

/-- R54, R55, R56: the states in which the active profile may not be rewritten. -/
def profileInUse (s : State) (p : Fin 4) : Bool :=
  p == s.profile.active && [Transport.play, .wind, .locate, .chase, .halting].contains s.planner.transport

/-- R58, R59: the switch, granted when the profile is complete. -/
def switchProfile (p : Fin 4) (s : State) : State := s.withProfile { s.profile with active := p }

/-! ## The planner's registers -/

/-- The tag of the active request, or 0 when none (R158, R182). -/
def activeTag (s : State) : Byte :=
  match s.planner.active with
  | some r => r.tag
  | none => 0

/-- R110: PLAY, WIND, LOCATE and CHASE are the moving states. -/
def Transport.moving : Transport → Bool
  | .play | .wind | .locate | .chase => true
  | _ => false

/-- R110: the states that hold the brakes set. -/
def Transport.resting : Transport → Bool
  | .safe | .braked | .estop => true
  | _ => false

def setTransport (t : Transport) (s : State) : State := s.withPlanner { s.planner with transport := t }
def setTarget (x : Int) (s : State) : State := s.withPlanner { s.planner with target := x }
def setPinch (x : Pinch) (s : State) : State := s.withPlanner { s.planner with pinch := x }
def setLocate (x : LocateRecord) (s : State) : State := s.withPlanner { s.planner with loc := x }

/-- R130: the play target. -/
def playTarget (s : State) (speedB : Bool) : Int :=
  min (s.capstanMax : Int) (roundDiv (s.playSpeed speedB * s.planner.ratio) 4096)

/-- R130: the chase capstan speed, limited. -/
def chaseTarget (s : State) : Int := min (s.capstanMax : Int) s.chase.supplied

/-- R127: the target speed the planner holds in its state; a locate's is set by the approach. -/
def standingTarget (s : State) : Int :=
  match s.planner.transport with
  | .play =>
    match s.planner.active with
    | some r => if s.planner.pinch = .engaged then playTarget s r.speedB else 0
    | none => 0
  | .wind =>
    match s.planner.active with
    | some r => directed r.reverse r.speed
    | none => 0
  | .locate => s.planner.target
  | .chase =>
    match s.planner.mode with
    | .capstan => if s.planner.pinch = .engaged ∨ s.planner.capstanWaits = false then chaseTarget s else 0
    | .locate => s.planner.target
    | _ => 0
  | _ => 0

/-- R127, R130: the held target speed is brought up to the state (log 17). -/
def retarget (s : State) : State := setTarget (standingTarget s) s

/-- R129: RELEASING with its count, or RELEASED at once where RELEASE_FRAMES is 0. -/
def startReleasing (s : State) : State :=
  setPinch (if s.releaseFrames = 0 then .released else .releasing s.releaseFrames) s

/-- R129: ENGAGING with its count, or ENGAGED at once where ENGAGE_FRAMES is 0. -/
def startEngaging (s : State) : State :=
  setPinch (if s.engageFrames = 0 then .engaged else .engaging s.engageFrames) s

/-- R129: a release is called for: an ENGAGING pinch goes straight to RELEASING (log 15). -/
def callRelease (s : State) : State :=
  match s.planner.pinch with
  | .engaging _ => startReleasing s
  | _ => s

/-- R129: a release is called for while HALTING, or while the Chase Unit has ordered an internal locate or a hold. -/
def releaseCalled (s : State) : Bool :=
  s.planner.transport == .halting ||
    (s.planner.transport == .chase && (s.planner.mode == .locate || s.planner.mode == .parked))

/-- An internal locate is in progress (R144). -/
def internalInProgress (s : State) : Bool := s.planner.loc.kind == .internal && s.planner.loc.phase != .none

/-- R142, R145: the phase becomes NONE; the other fields keep their values. -/
def clearPhase (s : State) : State := setLocate { s.planner.loc with phase := .none } s

/-- R116: HOLD after an append. -/
def holdAfterAppend (s : State) : State :=
  if s.holdHigh ≤ s.planner.queue.length then s.withPlanner { s.planner with hold := true } else s

/-- R116: HOLD after a record leaves. -/
def holdAfterLeave (s : State) : State :=
  if s.planner.queue.length ≤ s.holdLow then s.withPlanner { s.planner with hold := false } else s

/-- R113, R116: a record joins the tail. -/
def appendRequest (r : Request) (s : State) : State :=
  holdAfterAppend (s.withPlanner { s.planner with queue := s.planner.queue ++ [r] })

/-- R117: the queue is flushed; a flush that removes records queues QUEUE_FLUSHED with its cause. -/
def flushQueue (cause : Byte) (s : State) : State :=
  let n := s.planner.queue.length
  let s1 := s.withPlanner { s.planner with queue := [], hold := false }
  if n = 0 then s1 else queueNotice 0xC5 0 [BitVec.ofNat 8 n, cause] s1

/-! ## Gate lines (R148, R161) -/

/-- R148: gates are enabled. -/
def gatesEnabled (s : State) : Bool :=
  (s.planner.transport == .play ||
      (s.planner.transport == .chase && (s.chase.state == .locked || s.chase.state == .stable))) &&
    s.position.track != .absent

/-- R161: where an event has ended the enabled condition, every line closes, with one GATES_CLOSED if any was open. -/
def settleGates (cause : Byte) (s : State) : State :=
  if s.cue.gates ≠ 0 ∧ gatesEnabled s = false then
    queueNotice 0xC9 0 [s.cue.gates, cause] (s.withCue { s.cue with gates := 0 })
  else s

/-- R38, R148: the lines close without a notice. -/
def closeGates (s : State) : State := s.withCue { s.cue with gates := 0 }

/-! ## Entry into SAFE, BRAKED or ESTOP -/

/-- R69, R89, R110, R134, R178: what entry into a rest state does, whatever its cause. -/
def enterRest (t : Transport) (s : State) : State :=
  let s1 := s.withPlanner { s.planner with
    transport := t, target := 0, vRef := 0, aRef := 0, refClass := .hold, dwell := 0, pinch := .released, mode := .none,
    capstanWaits := false, loc := { s.planner.loc with phase := .none } }
  let s2 := (s1.withSupply (zeroTorque s1.supply)).withTakeup (zeroTorque s1.takeup)
  s2.withProtection { s2.protection with slackSup := 0, slackTak := 0, grace := 0, settleRun := 0 }

/-- R94: "clearing the runs"; the sector number an empty run then holds is the model's choice (log 36). -/
def clearRuns (p : PositionUnit) : PositionUnit :=
  { p with lastWord := none, wordTravel := 0, anchorRun := 0, anchorWord := 0, discRun := 0, discWord := 0 }

end Sys2Proof.Machine
end

