-- ==== Sys2Proof/Machine/Requests.lean ====
section
/-! DEFINITION. Requests and orders, shared by every unit that reaches the planner: starting a locate, the Chase Unit's
orders and its choice, the end of a request, taking the head, succession, the ESTOP and halt orders, and the occurrence of a
fault condition. -/

namespace Sys2Proof.Machine

/-! ## Starting a locate (R135, R144) -/

/-- R136: the approach limit L. -/
def approachLimit (s : State) : Int :=
  let limit : Nat :=
    match s.planner.loc.kind, s.planner.active with
    | .request, some r => r.speed
    | _, _ => s.windMax
  if 1 ≤ s.planner.loc.overshoots then (min limit s.creepSpeed : Nat) else (limit : Nat)

/-- D: Ptarget − P, modulo 2^32, read as signed, from a position P (R135, R136). -/
def distanceFrom (p : Word32) (s : State) : Int := positionDiff s.planner.loc.target p

/-- R135, R144, R145: D at an activation or a retargeting, from P as held. Where a SET_POSITION falls between the publication of a
record and an activation at it, R135 names two positions; the one held is the model's choice (log 37). -/
def locateDistance (s : State) : Int := distanceFrom s.position.p s

/-- R137: the phase becomes CRUISE in a direction, with target speed L. -/
def enterCruise (reverse : Bool) (s : State) : State :=
  let s1 := setLocate { s.planner.loc with phase := .cruise, reverse := reverse } s
  setTarget (directed reverse (approachLimit s1)) s1

/-- R139: the phase becomes PARK, with target speed 0. -/
def enterPark (s : State) : State := setTarget 0 (setLocate { s.planner.loc with phase := .park } s)

/-- R135 step 5: direction and phase from D. -/
def beginApproach (s : State) : State :=
  if |locateDistance s| ≤ s.parkWindow then
    enterPark (setLocate { s.planner.loc with reverse := decide (s.planner.vRef < 0) } s)
  else enterCruise (decide (locateDistance s < 0)) s

/-- R135 step 4: the budget of a distance. -/
def locateBudget (s : State) (d : Int) : Nat :=
  min (d.natAbs / s.sectorLen * s.locK / 1024 + s.locOffset) 4294967295

/-- R135 steps 2 to 6: the activation of a request locate. -/
def startRequestLocate (r : Request) (s : State) : State :=
  let target := countOf s r.target
  let s1 := setLocate { s.planner.loc with
    kind := .request, phase := .none, target := target, overshoots := 0,
    remaining := locateBudget s (positionDiff target s.position.p) } s
  beginApproach s1

/-! ## The Chase Unit's orders to the planner (R130, R144, R145, R166) -/

/-- R144: the internal locate is activated. -/
def activateInternal (s : State) : State := beginApproach s

/-- R145: an internal locate in progress, past WAIT, is retargeted. -/
def retargetInternal (s : State) : State :=
  let d := locateDistance s
  if |d| ≤ s.parkWindow then
    enterPark (setLocate { s.planner.loc with reverse := decide (s.planner.vRef < 0) } s)
  else if s.planner.vRef = 0 ∨ along (decide (d < 0)) s.planner.vRef = true then enterCruise (decide (d < 0)) s
  else setTarget 0 (setLocate { s.planner.loc with phase := .recover, reverse := decide (d < 0) } s)

/-- R144: in WAIT the approach direction of the fresh record is not stated; it is a free value until the activation (log 34). -/
def openDirection (s : State) : State :=
  setLocate { s.planner.loc with reverse := decide ((drawNat s).1 % 2 = 1) } (drawNat s).2

/-- R144, R145: the planner's side of an internal-locate order. -/
def plannerLocate (address : Int) (s : State) : State :=
  if internalInProgress s = true then
    let s1 := setLocate { s.planner.loc with target := countOf s address, overshoots := 0 } s
    if s.planner.loc.phase = .wait then s1 else retargetInternal s1
  else
    let s1 := s.withPlanner { s.planner with
      mode := .locate, capstanWaits := false, target := 0,
      loc := { s.planner.loc with
        kind := .internal, phase := .wait, target := countOf s address, remaining := 0, overshoots := 0 } }
    if s.planner.pinch = .released ∧ s.planner.vRef = 0 then activateInternal s1 else callRelease (openDirection s1)

/-- R145: another chase order ends an internal locate without a report. -/
def dropInternal (s : State) : State := if internalInProgress s = true then clearPhase s else s

/-- R130: the planner's side of a hold order. -/
def plannerHold (s : State) : State :=
  let s1 := dropInternal s
  callRelease (s1.withPlanner { s1.planner with mode := .parked, capstanWaits := false, target := 0 })

/-- R130: the planner's side of a capstan order at the supplied speed. -/
def plannerCapstan (s : State) : State :=
  let s1 := dropInternal s
  let s2 := s1.withPlanner { s1.planner with mode := .capstan, capstanWaits := s1.planner.pinch == .released }
  retarget
    (match s2.planner.pinch with
     | .released => startEngaging s2
     | .releasing _ => setPinch .engaged s2
     | _ => s2)

/-- R166: an internal-locate order. -/
def orderLocate (address : Int) (s : State) : State :=
  plannerLocate address
    (s.withChase { s.chase with locatePending := true, lastTarget := address, lastOrder := .locate })

/-- R166: a hold order. -/
def orderHold (s : State) : State :=
  plannerHold (s.withChase { s.chase with locatePending := false, lastOrder := .hold })

/-- R166: a capstan order at a supplied speed. -/
def orderCapstan (speed : Nat) (s : State) : State :=
  plannerCapstan (s.withChase { s.chase with locatePending := false, lastOrder := .capstan, supplied := speed })

/-! ## Chase states (R165 to R174) -/

/-- R165: Tq = REF + offset. -/
def chaseTarget0 (s : State) : Int := (s.ring.ref.toNat : Int) + s.chase.offset

/-- R166: the error of the choice, from P as held; it is not stored (log 20). -/
def chaseError (s : State) : Int := chaseTarget0 s - sectorPos s

/-- R164: vr is in range. -/
def vrInRange (s : State) : Bool :=
  match s.chase.vr with
  | some v => decide (1 ≤ v ∧ v ≤ s.capstanMax)
  | none => false

/-- R164: the states in which the speed basis carries a chase whose vr is unmeasured. -/
def ChaseState.established : ChaseState → Bool
  | .slew | .phase | .locked | .stable | .holdover => true
  | _ => false

/-- R164: the reference runs. -/
def referenceRuns (s : State) : Bool :=
  s.ring.refValid && s.ring.refRunning &&
    (vrInRange s || (s.chase.vr.isNone && s.chase.state.established && decide (0 < s.chase.basis)))

/-- R174: SYNC_STATE from a previous state. -/
def queueSync (prev : ChaseState) (cause : Byte) (s : State) : State :=
  queueNotice 0xCA s.chase.tag ([s.chase.state.code, prev.code, cause] ++ leBytes 2 s.chase.lockLosses) s

/-- R165, R170: a change of chase state zeroes frames in state; entry into IDLE, STANDBY, ACQUIRE or SLEW zeroes the trim. -/
def setChaseState (st : ChaseState) (s : State) : State :=
  let c := s.chase
  let frames := if c.state = st then c.framesInState else 0
  let trim := if st = .idle ∨ st = .standby ∨ st = .acquire ∨ st = .slew then 0 else c.trim
  s.withChase { c with state := st, framesInState := frames, trim := trim }

/-- R167 to R172: a chase state is entered and SYNC_STATE queued. -/
def enterChase (st : ChaseState) (cause : Byte) (s : State) : State :=
  queueSync s.chase.state cause (setChaseState st s)

/-- R169: the speed supplied in SLEW for an error. -/
def slewSpeed (s : State) (e : Int) : Nat := if e < -(s.phaseWindow : Int) then 0 else s.chase.basis

/-- R169, R170: the chase capstan speed formed from the basis and the trim. -/
def trimmedSpeed (s : State) (trim : Int) : Nat := (roundDiv (s.chase.basis * (4096 + trim)) 4096).toNat

/-- R170: the trim law at a record. -/
def trimLaw (e : Int) (s : State) : State :=
  let trim := clampSym s.trimLim (roundDiv (e * s.kph) 256)
  s.withChase { s.chase with
    trim := trim, supplied := trimmedSpeed s trim, trimMax := max s.chase.trimMax trim,
    trimMin := min s.chase.trimMin trim }

/-- R166: the state the choice selects. -/
def chosenState (s : State) : ChaseState :=
  if s.position.track = .absent then .standby
  else if s.ring.refValid = false then .standby
  else if referenceRuns s = false then .standby
  else if (s.phaseWindow : Int) < chaseError s ∨ chaseError s < -(s.acqWindow : Int) then .acquire
  else .slew

/-- R166: the choice and its first order. Where it enters SLEW, the speed of R169 is formed from the choice's own error, not from
the e of the last record (the model's choice: log 20). -/
def makeChoice (s : State) : State :=
  let s1 := setChaseState (chosenState s) s
  if s.position.track = .absent ∨ s.ring.refValid = false then orderHold s1
  else
    match chosenState s with
    | .acquire => orderLocate (chaseTarget0 s + s.acqLead) s1
    | .slew => orderCapstan (slewSpeed s (chaseError s)) s1
    | _ => orderLocate (chaseTarget0 s) s1

/-- R166: the choice made anew; a state that changes queues SYNC_STATE with the cause its rule names. -/
def chooseAnew (cause : ChaseState → Byte) (s : State) : State :=
  let s1 := makeChoice s
  if s1.chase.state = s.chase.state then s1 else queueSync s.chase.state (cause s1.chase.state) s1

/-- R166: a CHASE request becomes active. -/
def activateChase (r : Request) (s : State) : State :=
  let s1 := s.withChase { s.chase with
    tag := r.tag, offset := r.offset, trim := 0, trimMax := 0, trimMin := 0, qualRun := 0, absentRun := 0 }
  queueSync s.chase.state 1 (makeChoice s1)

/-- R173: the Chase Unit returns to IDLE when its request ends; already IDLE, it does nothing (log 26). -/
def endChase (cause : Byte) (s : State) : State :=
  if s.chase.state = .idle then s
  else
    queueSync s.chase.state cause (s.withChase { s.chase with
      state := .idle, trim := 0, framesInState := 0, qualRun := 0, absentRun := 0, lastOrder := .none,
      locatePending := false, lastTarget := 0, supplied := 0 })

/-- R168, R167: the planner reports an internal locate parked. -/
def reportParked (s : State) : State :=
  let s1 := s.withChase { s.chase with locatePending := false }
  if s.chase.state = .acquire then
    queueSync .acquire 4 (orderCapstan (slewSpeed s s.chase.e) (setChaseState .slew s1))
  else s1

/-- R167, R168: the planner reports an internal locate unsettled. -/
def reportUnsettled (s : State) : State := s.withChase { s.chase with locatePending := false }

/-! ## The end of a request (R119, R142, R145, R173) -/

/-- R142: the resume address a request locate leaves. -/
def resumeAfter (r : Request) (result : EndResult) (resume : Option Nat) : Option Nat :=
  match result with
  | .completed => none
  | .timeout | .unsettled | .fault | .flushed => some r.target
  | _ => resume

/-- R142: a request locate that ends; the activation checks keep the record (R135). -/
def settleLocate (r : Request) (result : EndResult) (s : State) : State :=
  if r.kind = .locate ∧ result ≠ .noPosition then
    let s1 := clearPhase s
    s1.withPlanner { s1.planner with resume := resumeAfter r result s1.planner.resume }
  else s

/-- R145: the end of a CHASE request ends its internal locate; the chase motion mode becomes none (R130). -/
def leaveChaseMode (s : State) : State :=
  let s1 := dropInternal s
  s1.withPlanner { s1.planner with mode := .none, capstanWaits := false }

/-- R173: cause 11 for REF_LOST, 12 otherwise. -/
def chaseEndCause (result : EndResult) : Byte := if result = .refLost then 11 else 12

/-- R119: the active request ends with a result: the locate settled, REQUEST_DONE queued, and for a CHASE the unit
returned to IDLE unless a CHASE takes over (R166). -/
def endActive (result : EndResult) (chaseFollows : Bool) (s : State) : State :=
  match s.planner.active with
  | none => s
  | some r =>
    let s1 := settleLocate r result (s.withPlanner { s.planner with active := none, dwell := 0 })
    let s2 := queueNotice 0xC4 r.tag [r.kind.code, result.code] s1
    if r.kind = .chase then
      if chaseFollows then leaveChaseMode s2 else endChase (chaseEndCause result) (leaveChaseMode s2)
    else s2

/-- R125: HALTING is entered. -/
def enterHalting (s : State) : State :=
  callRelease (s.withPlanner { s.planner with
    transport := .halting, haltingClass := s.planner.refClass, target := 0, mode := .none, capstanWaits := false })

/-! ## Taking the head (R115, R120, R183) -/

/-- R115: an until address is behind the tape. -/
def untilBehind (s : State) (reverse : Bool) (u : Nat) : Bool :=
  if reverse then decide (sectorPos s < u) else decide ((u : Int) ≤ sectorPos s)

/-- R115: the until test of a PLAY or WIND record. -/
def testUntil (s : State) (r : Request) : Request :=
  match r.untilAt with
  | none => r
  | some u =>
    if untilBehind s r.reverse u then { r with untilAt := none, errors := { r.errors with untilBehind := true } } else r

/-- R120 steps 1 to 3: the head leaves the queue, becomes active, and REQUEST_ACTIVE is queued. -/
def takeRecord (r : Request) (rest : List Request) (s : State) : State :=
  let s1 := holdAfterLeave (s.withPlanner { s.planner with queue := rest })
  let r1 := testUntil s1 r
  queueNotice 0xC3 r1.tag [r1.kind.code, errorByte r1.errors] (s1.withPlanner { s1.planner with active := some r1 })

/-- R183: the direction of a request that moves tape is barred. -/
def directionBarred (r : Request) (s : State) : Bool :=
  match r.kind with
  | .play | .chase => s.protection.inhibitForward
  | .wind => if r.reverse then s.protection.inhibitReverse else s.protection.inhibitForward
  | .locate => if s.planner.loc.reverse then s.protection.inhibitReverse else s.protection.inhibitForward
  | _ => false

/-- R120 step 4: the activation checks; the request ends at once where one fails, and the result says whether it stands. A CHASE
that takes over from a CHASE and fails the inhibit check ends the chase: the unit, not yet taken up by the new request, returns
to IDLE after its REQUEST_DONE (the model's choice: log 26). -/
def activationChecks (r : Request) (s : State) : State × Bool :=
  if r.kind = .locate ∧ s.position.track = .absent then (endActive .noPosition false s, false)
  else
    let s1 := if r.kind = .locate then startRequestLocate r s else s
    if directionBarred r s1 then (retarget (endActive .endOfTape false s1), false) else (s1, true)

/-- R120 steps 1 to 4. -/
def takeIn (r : Request) (rest : List Request) (s : State) : State × Bool :=
  activationChecks r (takeRecord r rest s)

/-- R120 step 5 for a kind that starts from STOPPED and goes on. -/
def startRequest (r : Request) (s : State) : State :=
  match r.kind with
  | .play => retarget (startEngaging (setTransport .play s))
  | .wind => retarget (setTransport .wind s)
  | .locate => setTransport .locate s
  | .chase => activateChase r (setTransport .chase s)
  | .stop => s
  | .dwell => s.withPlanner { s.planner with dwell := r.frames }

/-- R120: the head is taken, and again while each request taken ends at once, until one starts or the queue is empty. -/
def takeQueue : List Request → State → State
  | [], s => s
  | r :: rest, s =>
    match takeIn r rest s with
    | (s1, false) => takeQueue rest s1
    | (s1, true) => if r.kind = .stop then takeQueue rest (endActive .completed false s1) else startRequest r s1

/-- R120: the head is taken in STOPPED with no active request. -/
def takeHead (s : State) : State :=
  if s.planner.transport = .stopped ∧ s.planner.active = none then takeQueue s.planner.queue s else s

/-- R125, R186: entry into STOPPED, and the head taken. -/
def enterStopped (s : State) : State := takeHead (retarget (setTransport .stopped s))

/-! ## What follows the end of a request (R121) -/

/-- R121: PLAY and CHASE are the capstan family. -/
def RequestKind.capstan : RequestKind → Bool
  | .play | .chase => true
  | _ => false

/-- R121: WIND and LOCATE are the reel-driven family. -/
def RequestKind.reelDriven : RequestKind → Bool
  | .wind | .locate => true
  | _ => false

/-- R121: the pinch is ENGAGING or ENGAGED. -/
def Pinch.holds : Pinch → Bool
  | .engaging _ | .engaged => true
  | _ => false

/-- R121: a head of the same family takes the motion over. -/
def takesOver (ended head : RequestKind) (pinch : Pinch) : Bool :=
  (ended.reelDriven && head.reelDriven) || (ended.capstan && head.capstan && pinch.holds)

/-- R121: the transport state a moving kind takes. -/
def RequestKind.transport : RequestKind → Transport
  | .play => .play
  | .wind => .wind
  | .locate => .locate
  | .chase => .chase
  | _ => .halting

/-- R121, R161: the head, already active, takes the motion over; a change from PLAY into CHASE closes the lines with cause 1,
and a chase state that leaves LOCKED or STABLE while the transport stays CHASE with cause 2. -/
def continueMotion (r : Request) (s : State) : State :=
  let s1 := settleGates 1 (setTransport r.kind.transport s)
  if r.kind = .chase then settleGates 2 (activateChase r s1) else retarget s1

/-- R121: the active request, in a moving state, ends with a result, and what follows. -/
def endMoving (result : EndResult) (s : State) : State :=
  let halt (s : State) : State := settleGates 1 (enterHalting s)
  match s.planner.active with
  | none => s
  | some ended =>
    if result = .completed ∨ result = .superseded then
      match s.planner.queue with
      | [] => halt (endActive result false s)
      | head :: rest =>
        if takesOver ended.kind head.kind s.planner.pinch then
          match takeIn head rest (endActive result (head.kind == .chase) s) with
          | (s1, true) => continueMotion head s1
          | (s1, false) => halt s1
        else halt (endActive result false s)
    else halt (endActive result false s)

/-! ## Orders (R112) -/

/-- R112: the ESTOP order, naming the result of the active request. -/
def orderEstop (result : EndResult) (s : State) : State :=
  if s.planner.transport = .safe then s
  else
    let s1 := flushQueue 3 s
    if s.planner.transport = .estop then s1
    else settleGates 1 (enterRest .estop (endActive result false s1))

/-- R112: a halt order, with its result and whether its queue rule flushes. -/
def orderHalt (result : EndResult) (flushes : Bool) (s : State) : State :=
  let ruled := if flushes then flushQueue 3 s else s
  match s.planner.transport with
  | .safe | .braked | .estop => s
  | .halting => ruled
  | .stopped => takeHead (endActive result false ruled)
  | _ => settleGates 1 (enterHalting (endActive result false ruled))

/-! ## Fault conditions (R181, R182) -/

/-- R181: the conditions whose response is ESTOP; the others order a fault halt. -/
def Condition.stops : Condition → Bool
  | .slack | .runaway | .tapeOut | .senseLost | .ringSilence => true
  | _ => false

/-- R181: the order of a condition's class. -/
def giveOrder (c : Condition) (s : State) : State := if c.stops then orderEstop .fault s else orderHalt .fault true s

/-- R182: the record is filled when no flag is set and the transport is other than ESTOP. -/
def fillRecord (c : Condition) (reel : Option Reel) (seq : Byte) (captured : Int) (s : State) : State :=
  if s.protection.flags = 0 ∧ s.planner.transport ≠ .estop then
    s.withProtection { s.protection with
      record := some { condition := c, reel := reel, seq := seq, p := s.position.p, transport := s.planner.transport,
                       captured := captured } }
  else s

/-- R182 steps 1 to 4: count, record, flag, FAULT notice. -/
def noteFault (c : Condition) (reel : Option Reel) (seq : Byte) (captured : Int) (s : State) : State :=
  let n := s.protection.counters.toList.getD c.index 0
  let s1 := s.withProtection { s.protection with counters := s.protection.counters.setIfInBounds c.index (inc16 n) }
  let s2 := fillRecord c reel seq captured s1
  let s3 := s2.withProtection { s2.protection with flags := s2.protection.flags ||| BitVec.ofNat 16 (2 ^ c.index) }
  queueNotice 0xCB (activeTag s3) ([c.code, reelByte reel, s3.planner.transport.code] ++ leIntBytes 4 captured) s3

/-- R182: the occurrence of a condition, with its captured value brought into its four bytes (log 7). -/
def raise (c : Condition) (reel : Option Reel) (seq : Byte) (captured : Int) (s : State) : State :=
  giveOrder c (noteFault c reel seq (fit32 captured s).1 (fit32 captured s).2)

/-- An event row taken alone happens where its count stands one short of the limit (log 3). -/
def whenDue (due : Bool) (effect : State → State) (s : State) : State := if due then effect s else s

end Sys2Proof.Machine
end

