-- ==== Sys2Proof/Machine/Ring.lean ====
section
/-! DEFINITION. The Ring Port (chapter 1): sorting of arrivals, the lapse, the silence timer, READ_RING. The arrival of a
servo frame as a whole is in Arrival.lean, its departure in Departure.lean. -/

namespace Sys2Proof.Machine

/-- What the Ring Port delivers of a good frame (R6): k, the raw deltas, whether the frame is a re-baseline, and two states the
frame found when it arrived: whether the configuration was VALID (R41), and whether the transport was ESTOP (R184, log 43). The
sense values themselves are the ring's last good values. -/
structure Delivery where
  k : Nat
  rebaseline : Bool
  supDelta : Int
  takDelta : Int
  idlerDelta : Int
  valid : Bool
  foundEstop : Bool
deriving DecidableEq, Repr

/-- R5, R18: a frame lengthens the lapse by n frames or, with n = 0, ends it; while VALID the lapse is tested against HOLD_LIMIT,
and SENSE_LOST is raised once in it. A frame that adds nothing finds a lapse beyond the limit only where the lapse was in
progress when the configuration became VALID (R18). -/
def growLapse (n : Nat) (seq : Byte) (s : State) : State :=
  let l := s.ring.lapse + n
  if s.config.valid = true ∧ s.ring.senseLostRaised = false ∧ s.holdLimit < l then
    raise .senseLost none seq l (s.withRing { s.ring with lapse := l, senseLostRaised := true })
  else s.withRing { s.ring with lapse := l }

/-- R8: a servo frame arrives. -/
def restartTimer (s : State) : State :=
  if s.ring.timer = .stopped ∧ s.config.valid = false then s
  else s.withRing { s.ring with timer := .running, elapsed := 0 }

/-- R9: the silence timer expires. A new lapse begins (log 9). -/
def expireSilence (s : State) : State :=
  let n := inc16 s.ring.silences
  let s1 := s.withRing { s.ring with
    timer := .expired, elapsed := s.silenceUs, silences := n, stale := true, lapse := 0, senseLostRaised := false }
  breakAssembly (raise .ringSilence none s.ring.lastSeq n s1)

/-- R8, R9: one microsecond passes (log 1). -/
def tick (s : State) : State :=
  if s.ring.timer = .running then
    if s.silenceUs ≤ s.ring.elapsed + 1 then expireSilence s
    else s.withRing { s.ring with elapsed := s.ring.elapsed + 1 }
  else s

/-- R2, R7: the Ring Port's handling of a damaged frame, up to its departure. -/
def arriveDamaged (s : State) : State :=
  let s1 := s.withRing { s.ring with damaged := inc16 s.ring.damaged }
  if s.ring.baseline then
    breakAssembly (growLapse 1 s.ring.lastSeq (s1.withRing { s1.ring with damagedRun := s1.ring.damagedRun + 1 }))
  else breakAssembly s1

/-- R4, R7: the Ring Port's handling of a repeated frame, up to its departure. -/
def arriveRepeated (s : State) : State :=
  breakAssembly (growLapse 1 s.ring.lastSeq (s.withRing { s.ring with repeated := inc16 s.ring.repeated }))

/-- R4: the gap g of a good frame after a baseline. -/
def seqGap (f : Frame) (s : State) : Nat := (f.seq - s.ring.lastSeq - 1).toNat

/-- R4: m, the frames that never reached the part; none without a baseline (R3). -/
def missingFrames (f : Frame) (s : State) : Nat :=
  if s.ring.baseline then seqGap f s - s.ring.damagedRun else 0

/-- R3, R5, R9: the good frame is handled as a re-baseline. -/
def isRebaseline (f : Frame) (s : State) : Bool :=
  s.ring.stale ||
    (s.ring.baseline &&
      (if s.config.valid then decide (s.holdLimit < s.ring.lapse + missingFrames f s)
       else decide (1 ≤ s.ring.lapse + missingFrames f s)))

/-- R6: what the Ring Port delivers of a good frame. -/
def delivery (f : Frame) (s : State) : Delivery :=
  let fresh := isRebaseline f s || !s.ring.baseline
  { k := if fresh then 1 else seqGap f s + 1,
    rebaseline := isRebaseline f s,
    supDelta := if fresh then 0 else rawDelta f.supTach s.ring.lastSup,
    takDelta := if fresh then 0 else rawDelta f.takTach s.ring.lastTak,
    idlerDelta := if fresh then 0 else rawDelta f.idler s.ring.lastIdler,
    valid := s.config.valid,
    foundEstop := s.planner.transport == .estop }

/-- R6: the last good values become the frame's. -/
def lastGood (f : Frame) (r : Ring) : Ring :=
  { r with
    baseline := true, stale := false, lastSeq := f.seq, lastSup := f.supTach, lastTak := f.takTach, lastIdler := f.idler,
    supArm := armSample f.supArm, takArm := armSample f.takArm, trackSector := f.track.toNat % 16777216,
    trackValid := f.track.msb, tapePresent := f.edges.getLsbD 0, supLeader := f.edges.getLsbD 1,
    takLeader := f.edges.getLsbD 2, ref := f.ref, refValid := f.refFlags.getLsbD 0, refRunning := f.refFlags.getLsbD 1,
    lapse := 0, damagedRun := 0, senseLostRaised := false, afterSilence := r.stale }

/-- R4, R5, R6, R26: the Ring Port's handling of a good frame, up to its delivery: the missing frames are counted and break
a message, the lapse is settled, and the last good values are updated. After a silence expiry the lapse is not tested.
The SEQ is stored with the other last good values, before the delivery: the model's choice (log 39). -/
def arriveGood (f : Frame) (s : State) : State :=
  let m := missingFrames f s
  let s1 := s.withRing { s.ring with missing := sat16 (s.ring.missing + m) }
  let s2 := if s.ring.stale then s1 else growLapse m f.seq s1
  let s3 := if 0 < m then breakAssembly s2 else s2
  s3.withRing (lastGood f s3.ring)

/-! ## Commands and events -/

/-- POWER_ON (R39 and the power-on columns): every unit takes its power-on values. The queue of waiting commands and the
count of free values are the model's own and stay (log 32). -/
def execPowerOn (s : State) : Host.Outcome State Fault Refusal :=
  .next ((State.reset.withPending s.pending).withFreeDraws s.freeDraws)

/-- SENSE_LOST (R5, R18): the frame that takes the lapse past HOLD_LIMIT, or the good frame that ends a lapse standing past it
since before the commit, with a growth of 0. -/
def senseLostDue (growth : Byte) (goodSeq : Option Byte) (s : State) : Bool :=
  s.config.valid && s.ring.baseline && !s.ring.senseLostRaised && !(s.ring.stale && goodSeq.isSome) &&
    (goodSeq.isSome || decide (0 < growth.toNat)) && decide (s.holdLimit < s.ring.lapse + growth.toNat)

def execSenseLost (growth : Byte) (goodSeq : Option Byte) (s : State) : Host.Outcome State Fault Refusal :=
  .next (whenDue (senseLostDue growth goodSeq s) (growLapse growth.toNat (goodSeq.getD s.ring.lastSeq)) s)

/-- SILENCE_EXPIRY (R9): a RUNNING timer reaches SILENCE_US; in the other states it does not expire. -/
def execSilenceExpiry (s : State) : Host.Outcome State Fault Refusal :=
  .next (whenDue (s.ring.timer == .running) expireSilence s)

/-- READ_RING's reply data (R17). -/
def readRingData (s : State) : List Byte :=
  leBytes 2 s.ring.damaged ++ leBytes 2 s.ring.missing ++ leBytes 2 s.ring.repeated ++ leBytes 2 s.ring.silences ++
    [BitVec.ofNat 8 (bit s.msg.overrunLatch), if s.ring.afterSilence then 2 else 1, s.ring.lastSeq]

/-- READ_RING (R17). -/
def readRing (tag : Byte) (params : List Byte) (s : State) : State :=
  if params.length ≠ 1 then reply 0x01 tag .badLength [] s
  else
    let s1 := s.withMsg { s.msg with overrunLatch := false }
    let s2 :=
      if clearOption params then
        s1.withRing { s1.ring with damaged := 0, missing := 0, repeated := 0, silences := 0 }
      else s1
    reply 0x01 tag .ok (readRingData s) s2

def execReadRing (tag : Byte) (params : List Byte) (s : State) : Host.Outcome State Fault Refusal :=
  .next (atCompletion 0x01 tag params (readRing tag params) s)

end Sys2Proof.Machine
end

