-- ==== Sys2Proof/Machine/Position.lean ====
section
/-! DEFINITION. The Position Unit (chapter 6): travel, sector words, the movement record, SET_POSITION and READ_POSITION. -/

namespace Sys2Proof.Machine

/-- R106: the movement record of a good frame; `rebaseline` is the mark the Ring Port gives with it (R164). A
reader that wants the position after the record takes it from here, since the position held may have been set anew by a
command of the same frame (R107). -/
structure MovementRecord where
  s0 : Int
  p1 : Word32
  s1 : Int
  jump : Option Int
  status : TrackStatus
  vMeas : Int
  delta : Int
  k : Nat
  rebaseline : Bool
deriving DecidableEq, Repr

/-- R106: the position after the record, P1 plus any jump. -/
def MovementRecord.after (m : MovementRecord) : Word32 := m.p1 + wrapPosition (m.jump.getD 0)

/-- What the examination of a TRACK word leaves for the rest of the frame (R96): whether it restarted the age, and the jump
it calls for. -/
structure WordOutcome where
  restarted : Bool
  jump : Option Int
deriving DecidableEq, Repr

/-! ## Speed and status (R97, R98, R105) -/

/-- R97: the measured speed moved a quarter of the way toward the instantaneous one. -/
def nextSpeed (v delta : Int) (k : Nat) : Int := v + roundDiv (roundDiv (delta * 256) k - v) 4

/-- R105: TRACK_STATE. -/
def queueTrackState (cause : Byte) (s : State) : State := queueNotice 0xC1 0 [s.position.track.code, cause] s

/-- A change of track status made by the unit's own work (R105). -/
def changeTrack (t : TrackStatus) (cause : Byte) (s : State) : State :=
  queueTrackState cause (s.withPosition { s.position with track := t })

/-- R98: step 5 of a re-baseline frame. -/
def rebaselineStep (s : State) : State :=
  let s1 := if s.position.track = .tracking then changeTrack .coasting 5 s else s
  s1.withPosition (clearRuns s1.position)

/-! ## Sector words (R100 to R104) -/

/-- R100: a new word is consistent with a previous one, given the travel between them. -/
def consistentWord (w n : Nat) (travel : Int) : Bool :=
  (n == w + 1 && decide (0 < travel)) || (n + 1 == w && decide (travel < 0))

/-- R101, R103: the length of a run after a word is taken into it. -/
def nextRun (run w n : Nat) (travel : Int) : Nat := if 0 < run ∧ consistentWord w n travel = true then run + 1 else 1

/-- R100: a new word, handled, becomes the last word, and the word travel zero. -/
def rememberWord (n : Nat) (accepted : Bool) (s : State) : State :=
  s.withPosition { s.position with lastWord := some { sector := n, accepted := accepted }, wordTravel := 0 }

/-- E(n) − P (R102). -/
def wordError (s : State) (n : Nat) : Int := positionDiff (boundary s n) s.position.p

/-- R101: a new word while ABSENT. -/
def anchorWordStep (n : Nat) (s : State) : State × WordOutcome :=
  let run := nextRun s.position.anchorRun s.position.anchorWord n s.position.wordTravel
  if run < 3 then
    (rememberWord n false (s.withPosition { s.position with anchorRun := run, anchorWord := n }), ⟨false, none⟩)
  else
    let s1 := changeTrack .tracking 1 (s.withPosition { s.position with
      anchorRun := 0, anchorWord := 0, discRun := 0, discWord := 0, trackAge := 0, accepted := inc16 s.position.accepted })
    (rememberWord n true s1, ⟨true, some (wordError s n)⟩)

/-- R102: the status after an accepted word: COASTING becomes TRACKING, with its cause. -/
def regainTrack (cause : Byte) (s : State) : State :=
  if s.position.track = .coasting then changeTrack .tracking cause s else s

/-- R102: a word within SNAP_WINDOW sets P to its boundary. -/
def snapWord (n : Nat) (s : State) : State × WordOutcome :=
  let s1 := s.withPosition { s.position with
    p := boundary s n, discRun := 0, discWord := 0, trackAge := 0, accepted := inc16 s.position.accepted }
  (rememberWord n true (regainTrack 2 s1), ⟨true, none⟩)

/-- R105: REANCHOR. -/
def queueReanchor (jump : Int) (n : Nat) (s : State) : State := queueNotice 0xC2 0 (leIntBytes 4 jump ++ leBytes 3 n) s

/-- R103: a discrepant word. -/
def discrepantWord (n : Nat) (s : State) : State × WordOutcome :=
  let run := nextRun s.position.discRun s.position.discWord n s.position.wordTravel
  if run < 3 then
    (rememberWord n false (s.withPosition { s.position with
      discRun := run, discWord := n, discrepant := inc16 s.position.discrepant }), ⟨false, none⟩)
  else
    let s1 := s.withPosition { s.position with
      discRun := 0, discWord := 0, trackAge := 0, accepted := inc16 s.position.accepted,
      reanchors := inc16 s.position.reanchors }
    (rememberWord n true (regainTrack 4 (queueReanchor (wordError s n) n s1)), ⟨true, some (wordError s n)⟩)

/-- R100: a new word, by the track status. -/
def newWord (n : Nat) (s : State) : State × WordOutcome :=
  if s.position.track = .absent then anchorWordStep n s
  else if |wordError s n| ≤ s.snapWindow then snapWord n s
  else discrepantWord n s

/-- R104: a repeat confirms. -/
def repeatConfirms (n : Nat) (accepted : Bool) (s : State) : Bool :=
  accepted && decide (|wordError s n| ≤ (s.sectorLen : Int) + s.snapWindow)

/-- R100, R104: the frame's TRACK word is examined. -/
def examineWord (s : State) : State × WordOutcome :=
  let n := s.ring.trackSector
  if s.ring.trackValid = false then (s, ⟨false, none⟩)
  else
    match s.position.lastWord with
    | none => newWord n s
    | some w =>
      if w.sector = n then
        if repeatConfirms n w.accepted s then (s.withPosition { s.position with trackAge := 0 }, ⟨true, none⟩)
        else (s, ⟨false, none⟩)
      else newWord n s

/-- R104: the track age of a frame whose word did not restart it, and the fall to COASTING. -/
def ageStep (s : State) : State :=
  let age := inc16 s.position.trackAge
  let s1 := s.withPosition { s.position with trackAge := age }
  if s.position.track = .tracking ∧ s.trackAgeLimit ≤ age then changeTrack .coasting 3 s1 else s1

/-! ## The work of a frame (R96) -/

/-- Steps 1, 3 and 4 of R96; a word travel that leaves its range is a value the manual does not state (log 7). -/
def travelStep (delta : Int) (k : Nat) (s : State) : State :=
  let drawn := fit32 (s.position.wordTravel + delta) s
  let p := drawn.2.position
  drawn.2.withPosition { p with
    p := p.p + wrapPosition delta, wordTravel := drawn.1, vMeas := nextSpeed p.vMeas delta k }

/-- Steps 8 and 9 of R96: the jump after the record, and the count of coasted frames. -/
def afterRecord (jump : Option Int) (s : State) : State :=
  let p := s.position
  s.withPosition { p with
    p := p.p + wrapPosition (jump.getD 0),
    coasted := if p.track = .coasting then inc16 p.coasted else p.coasted }

/-- R96: the unit's work at a good frame, and the movement record it publishes. -/
def positionWork (d : Delivery) (s : State) : State × MovementRecord :=
  let delta := mirror s.mirrorIdler d.idlerDelta
  let s1 := travelStep delta d.k s
  let s2 := if d.rebaseline then rebaselineStep s1 else s1
  let word := examineWord s2
  let s3 := if word.2.restarted then word.1 else ageStep word.1
  (afterRecord word.2.jump s3,
    { s0 := sectorPos s, p1 := s3.position.p, s1 := sectorPos s3, jump := word.2.jump, status := s3.position.track,
      vMeas := s3.position.vMeas, delta := delta, k := d.k, rebaseline := d.rebaseline })

/-- TRACK_AGE_EXPIRY (R104): the frame that takes the age to TRACK_AGE while TRACKING. -/
def trackAgeDue (s : State) : Bool :=
  s.config.valid && s.position.track == .tracking && decide (s.trackAgeLimit ≤ inc16 s.position.trackAge)

def execTrackAgeExpiry (s : State) : Host.Outcome State Fault Refusal := .next (whenDue (trackAgeDue s) ageStep s)

/-! ## Commands (R108, R109) -/

/-- R108: the transport states that accept SET_POSITION. -/
def setPositionAccepted (s : State) : Bool := [Transport.safe, .braked, .stopped].contains s.planner.transport

/-- R108: P is set, or the address stored as pending in SAFE. -/
def declarePosition (t : Nat) (s : State) : State :=
  let p := { clearRuns s.position with track := TrackStatus.coasting, trackAge := 0 }
  if s.planner.transport = .safe then s.withPosition { p with pending := some (BitVec.ofNat 32 t) }
  else s.withPosition { p with p := countOf s t, pending := none }

/-- SET_POSITION (R108). -/
def setPosition (tag : Byte) (params : List Byte) (s : State) : State :=
  if params.length ≠ 4 then reply 0x21 tag .badLength [] s
  else if setPositionAccepted s then
    let s1 := declarePosition (natField params 0 4) s
    reply 0x21 tag .ok
      (BitVec.ofNat 8 (bit (s.planner.transport == .safe)) :: word32Bytes s1.position.p) s1
  else reply 0x21 tag .wrongState [] s

def execSetPosition (tag : Byte) (params : List Byte) (s : State) : Host.Outcome State Fault Refusal :=
  .next (atCompletion 0x21 tag params (setPosition tag params) s)

/-- An address in READ_POSITION's or READ_TRANSPORT's reply (R109, R132): 0 when none. -/
def addressBytes (a : Option Nat) : List Byte := leBytes 4 (a.getD 0)

/-- READ_POSITION's reply data (R109). -/
def readPositionData (s : State) : List Byte :=
  let p := s.position
  word32Bytes p.p ++ leIntBytes 5 (if s.config.valid then sectorPos s else 0) ++ leIntBytes 4 p.vMeas ++
    [p.track.code, BitVec.ofNat 8 p.anchorRun, BitVec.ofNat 8 p.discRun] ++ leBytes 2 p.trackAge ++ leBytes 2 p.accepted ++
    leBytes 2 p.discrepant ++ leBytes 2 p.reanchors ++ leBytes 2 p.coasted ++ [BitVec.ofNat 8 (bit p.pending.isSome)] ++
    addressBytes (p.pending.map BitVec.toNat)

/-- READ_POSITION (R109). -/
def readPosition (tag : Byte) (params : List Byte) (s : State) : State :=
  if params.length ≠ 1 then reply 0x22 tag .badLength [] s
  else
    let s1 :=
      if clearOption params then
        s.withPosition { s.position with accepted := 0, discrepant := 0, reanchors := 0, coasted := 0 }
      else s
    reply 0x22 tag .ok (readPositionData s) s1

def execReadPosition (tag : Byte) (params : List Byte) (s : State) : Host.Outcome State Fault Refusal :=
  .next (atCompletion 0x22 tag params (readPosition tag params) s)

end Sys2Proof.Machine
end

