-- ==== Sys2Proof/Machine/Chase.lean ====
section
/-! DEFINITION. The Chase Unit (chapter 10): the reference history, the work at a movement record, SET_OFFSET and READ_SYNC.
The choice, the orders and the end of a chase are in Requests.lean. -/

namespace Sys2Proof.Machine

/-! ## The reference history (R164) -/

/-- R164: the history after a record. -/
def nextHistory (m : MovementRecord) (s : State) : List Word32 :=
  if s.ring.refValid = false then []
  else if 1 < m.k ∨ m.rebaseline = true then [s.ring.ref]
  else (s.ring.ref :: s.chase.history).take 9

/-- R164: vr from a history of 9 values. -/
def measuredSpeed (s : State) (h : List Word32) : Option Int :=
  if h.length = 9 then some (roundDiv (positionDiff (h.getD 0 0) (h.getD 8 0) * s.sectorLen) 8) else none

/-- R164: the speed basis takes a vr in range, but not in HOLDOVER. -/
def nextBasis (s : State) : Nat :=
  if vrInRange s = true ∧ s.chase.state ≠ .holdover then (s.chase.vr.getD 0).toNat else s.chase.basis

/-- R164: the history update. -/
def updateHistory (m : MovementRecord) (s : State) : State :=
  let h := nextHistory m s
  let s1 := s.withChase { s.chase with history := h, vr := measuredSpeed s h }
  s1.withChase { s1.chase with basis := nextBasis s1 }

/-! ## Entries of the states (R167 to R170) -/

/-- R161: a chase state that ends the enabled condition closes the lines with cause 2, after its SYNC_STATE (log 14). -/
def moveTo (st : ChaseState) (cause : Byte) (s : State) : State := settleGates 2 (enterChase st cause s)

/-- R167: STANDBY is entered, with an internal locate to Tq. -/
def toStandby (cause : Byte) (s : State) : State :=
  let s1 := moveTo .standby cause s
  orderLocate (chaseTarget0 s1) s1

/-- R168: ACQUIRE is entered, with an internal locate to Tq + ACQ_LEAD. -/
def toAcquire (cause : Byte) (s : State) : State :=
  let s1 := moveTo .acquire cause s
  orderLocate (chaseTarget0 s1 + s1.acqLead) s1

/-- R169, R171, R172: PHASE is entered, the trim law applied at this record and the qualification run zero (log 21). -/
def toPhase (cause : Byte) (e : Int) (s : State) : State :=
  let s1 := s.withChase { s.chase with qualRun := 0 }
  trimLaw e (moveTo .phase cause s1)

/-- R171: the qualification run after a record. -/
def nextQualRun (e : Int) (s : State) : Nat := if |e| ≤ s.lockWindow then inc16 s.chase.qualRun else 0

/-! ## The rules of the states at a record (R167 to R172) -/

/-- R167: the standing rule of STANDBY. -/
def standbyRule (e : Int) (s : State) : State :=
  let tq := chaseTarget0 s
  if referenceRuns s then chooseAnew (fun st => if st = .acquire then 3 else 5) s
  else if s.chase.lastOrder = .hold then orderLocate tq s
  else if s.chase.locatePending = false ∧ (s.acqWindow : Int) < |e| then orderLocate tq s
  else if s.chase.locatePending = true ∧ (s.acqWindow : Int) < |tq - s.chase.lastTarget| then orderLocate tq s
  else s

/-- R168: the rule of ACQUIRE. -/
def acquireRule (s : State) : State :=
  if referenceRuns s = false then toStandby 2 s
  else if s.chase.locatePending = false then chooseAnew (fun _ => 5) s
  else s

/-- R169: the rule of SLEW. -/
def slewRule (e : Int) (s : State) : State :=
  if referenceRuns s = false then toStandby 2 s
  else if (s.phaseWindow : Int) < e ∨ e < -(s.acqWindow : Int) then toAcquire 3 s
  else if -(s.phaseWindow : Int) ≤ e then toPhase 5 e s
  else s.withChase { s.chase with supplied := 0 }

/-- R171: the rule of PHASE. -/
def phaseRule (e : Int) (s : State) : State :=
  if referenceRuns s = false then toStandby 2 s
  else if (s.acqWindow : Int) < |e| then toAcquire 3 s
  else
    let run := nextQualRun e s
    let s1 := trimLaw e (s.withChase { s.chase with qualRun := run })
    if s.lockFrames ≤ run then moveTo .locked 6 (s1.withChase { s1.chase with qualRun := 0 }) else s1

/-- R171: the rule of LOCKED and STABLE. -/
def lockedRule (e : Int) (s : State) : State :=
  if referenceRuns s = false then toStandby 2 s
  else if (s.lossWindow : Int) < |e| then
    let s1 := s.withChase { s.chase with lockLosses := inc16 s.chase.lockLosses }
    if |e| ≤ s.acqWindow then toPhase 8 e s1 else toAcquire 8 s1
  else if s.chase.state = .locked then
    let run := nextQualRun e s
    let s1 := trimLaw e (s.withChase { s.chase with qualRun := run })
    if s.stableFrames ≤ run then moveTo .stable 7 s1 else s1
  else trimLaw e s

/-- R172: leaving HOLDOVER at a record with REF valid. -/
def holdoverRule (e : Int) (s : State) : State :=
  if referenceRuns s = false then toStandby 10 s
  else if (s.acqWindow : Int) < |e| then toAcquire 10 s
  else toPhase 10 e s

/-- R172: the reference returns in STANDBY or ACQUIRE. -/
def returnRule (s : State) : State := chooseAnew (fun _ => 10) s

/-- R165 step 4: the rule of the state held; `returned` says that this is the first record with REF valid after a dropout. -/
def stateRule (returned : Bool) (e : Int) (s : State) : State :=
  match s.chase.state with
  | .idle => s
  | .standby => if returned then returnRule s else standbyRule e s
  | .acquire => if returned then returnRule s else acquireRule s
  | .slew => slewRule e s
  | .phase => phaseRule e s
  | .locked | .stable => lockedRule e s
  | .holdover => holdoverRule e s

/-- R172: the state at a record with REF VALID clear. -/
def dropoutRule (s : State) : State :=
  match s.chase.state with
  | .slew | .phase | .locked | .stable => moveTo .holdover 9 s
  | .standby | .acquire => if s.chase.lastOrder = .hold then s else orderHold s
  | _ => s

/-- R172: a record with REF VALID clear: the run, the state, and at REF_HOLD the chase loss order. -/
def absentStep (s : State) : State :=
  let run := inc16 s.chase.absentRun
  let s1 := dropoutRule (s.withChase { s.chase with absentRun := run })
  if s.refHold ≤ run then orderHalt .refLost false s1 else s1

/-- R165 step 2: e = Tq − S, with S the sector position after the record. -/
def recordError (m : MovementRecord) (s : State) : Int := chaseTarget0 s - sectorOf s m.after

/-- R165 step 2: the run zeroed and the error formed. -/
def formError (m : MovementRecord) (s : State) : State :=
  s.withChase { s.chase with absentRun := 0, e := recordError m s }

/-- R165 step 5: frames in state, where the unit's work on the record did not change the state. A change earlier at the same
arrival, by a parked report or an activation taken before this work, is not counted as one at this record: the model's choice
(log 38). -/
def countFrames (before : ChaseState) (s : State) : State :=
  if s.chase.state = before then s.withChase { s.chase with framesInState := inc16 s.chase.framesInState } else s

/-- R165: the work on a record outside IDLE; with the record ABSENT nothing follows the error (log 19). -/
def chaseRecord (m : MovementRecord) (s : State) : State :=
  if s.ring.refValid = false then countFrames s.chase.state (absentStep s)
  else if m.status = .absent then formError m s
  else
    let s1 := formError m s
    countFrames s.chase.state (stateRule (decide (0 < s.chase.absentRun)) s1.chase.e s1)

/-- R164, R165: the unit's work at a movement record. -/
def chaseWork (m : MovementRecord) (s : State) : State :=
  let s1 := updateHistory m s
  if s1.chase.state = .idle then s1 else chaseRecord m s1

/-! ## Events (log 3) -/

/-- A record on which the unit applies the rule of its state, in a given state, with a running reference. -/
def chaseRuleDue (st : ChaseState) (s : State) : Bool :=
  s.config.valid && s.chase.state == st && s.position.track != .absent && referenceRuns s

/-- The error of a record, as the event carries it (R165 step 2). -/
def withError (e : Int) (s : State) : State := s.withChase { s.chase with absentRun := 0, e := e }

/-- LOCK_QUALIFIED (R171): the qualifying record that takes the run to LOCK_FRAMES in PHASE. -/
def lockQualifiedDue (e : Int) (s : State) : Bool :=
  chaseRuleDue .phase s && decide (|e| ≤ s.lockWindow) && decide (|e| ≤ s.acqWindow) &&
    decide (s.lockFrames ≤ inc16 s.chase.qualRun)

def execLockQualified (e : Int) (s : State) : Host.Outcome State Fault Refusal :=
  .next (whenDue (lockQualifiedDue e s) (fun s => phaseRule e (withError e s)) s)

/-- STABLE_QUALIFIED (R171): the qualifying record that takes the run to STABLE_FRAMES in LOCKED. -/
def stableQualifiedDue (e : Int) (s : State) : Bool :=
  chaseRuleDue .locked s && decide (|e| ≤ s.lockWindow) && decide (|e| ≤ s.lossWindow) &&
    decide (s.stableFrames ≤ inc16 s.chase.qualRun)

def execStableQualified (e : Int) (s : State) : Host.Outcome State Fault Refusal :=
  .next (whenDue (stableQualifiedDue e s) (fun s => lockedRule e (withError e s)) s)

/-- REF_LOST (R172): the record that takes the reference-absent run to REF_HOLD. -/
def refLostDue (s : State) : Bool :=
  s.config.valid && s.chase.state != .idle && !s.ring.refValid && decide (s.refHold ≤ inc16 s.chase.absentRun)

def execRefLost (s : State) : Host.Outcome State Fault Refusal := .next (whenDue (refLostDue s) absentStep s)

/-! ## Commands (R175, R176) -/

/-- SET_OFFSET (R175). -/
def setOffset (tag : Byte) (params : List Byte) (s : State) : State :=
  let asked := intField params 0 4
  let offset := clampSym Config.offsetLimit asked
  if params.length ≠ 4 then reply 0x38 tag .badLength [] s
  else if s.chase.state = .idle then reply 0x38 tag .wrongState [] s
  else
    reply 0x38 tag (if offset = asked then .ok else .clamped) (leIntBytes 4 offset)
      (s.withChase { s.chase with offset := offset })

def execSetOffset (tag : Byte) (params : List Byte) (s : State) : Host.Outcome State Fault Refusal :=
  .next (atCompletion 0x38 tag params (setOffset tag params) s)

/-- READ_SYNC's reply data (R176), with vr brought into its four bytes (log 7). -/
def readSyncData (vr : Int) (s : State) : List Byte :=
  let c := s.chase
  [c.state.code] ++ leIntBytes 4 c.offset ++ leIntBytes 5 c.e ++ leIntBytes 4 vr ++ [BitVec.ofNat 8 (bit c.vr.isSome)] ++
    leBytes 2 c.basis ++ leIntBytes 2 c.trim ++ leIntBytes 2 c.trimMax ++ leIntBytes 2 c.trimMin ++
    leBytes 2 c.lockLosses ++ leBytes 2 c.framesInState ++ leBytes 2 c.qualRun ++ leBytes 2 c.absentRun ++
    [BitVec.ofNat 8 c.history.length]

/-- READ_SYNC (R176). -/
def readSync (tag : Byte) (params : List Byte) (s : State) : State :=
  if params.length ≠ 1 then reply 0x39 tag .badLength [] s
  else
    let drawn := fit32 (s.chase.vr.getD 0) s
    let s1 := drawn.2
    let s2 :=
      if clearOption params then s1.withChase { s1.chase with lockLosses := 0, trimMax := 0, trimMin := 0 } else s1
    reply 0x39 tag .ok (readSyncData drawn.1 s) s2

def execReadSync (tag : Byte) (params : List Byte) (s : State) : Host.Outcome State Fault Refusal :=
  .next (atCompletion 0x39 tag params (readSync tag params) s)

end Sys2Proof.Machine
end

