-- ==== Sys2Proof/Machine/Configuration.lean ====
section
/-! DEFINITION. The Configuration Store (chapter 3): its five commands. -/

namespace Sys2Proof.Machine

/-! ## CONFIG_WRITE (R44) -/

/-- R44, R50: the CRC of a block: its id, then its contents. -/
def blockCrc (id : Byte) (contents : List Byte) : Word16 := crc (id :: contents)

/-- R44: the contents carried by a CONFIG_WRITE of a block. -/
def writeContents (params : List Byte) : List Byte := (params.drop 1).take (params.length - 3)

/-- R44 step 5: the CRC carried, low byte first. -/
def writeCrc (params : List Byte) : Word16 := BitVec.ofNat 16 (natField params (params.length - 2) 2)

/-- R44: the outcome of the six checks, first failure first: the result and the reply's data. -/
def writeChecks (params : List Byte) (s : State) : Result × List Byte :=
  let id := paramByte params 0
  if params.length = 0 then (.badLength, [])
  else if id.toNat < 1 ∨ 8 < id.toNat then (.badValue, [id, 0])
  else if params.length ≠ 3 + blockLength id.toNat then (.badLength, [])
  else if s.config.valid then (.inUse, [])
  else if writeCrc params ≠ blockCrc id (writeContents params) then (.crcMismatch, [])
  else
    match badField id.toNat (writeContents params) with
    | some n => (.badValue, [id, BitVec.ofNat 8 n])
    | none => (.ok, [id])

/-- CONFIG_WRITE (R44). -/
def configWrite (tag : Byte) (params : List Byte) (s : State) : State :=
  let outcome := writeChecks params s
  let s1 :=
    if outcome.1 = .ok then
      s.withConfig (s.config.setBlock (paramByte params 0).toNat { present := true, contents := writeContents params })
    else s
  reply 0x10 tag outcome.1 outcome.2 s1

def execConfigWrite (tag : Byte) (params : List Byte) (s : State) : Host.Outcome State Fault Refusal :=
  .next (atCompletion 0x10 tag params (configWrite tag params) s)

/-! ## CONFIG_COMMIT (R45, R46, R47) -/

/-- R46 check 1: the lowest-numbered absent block. -/
def absentBlock (c : ConfigStore) : Option Nat := [1, 2, 3, 4, 5, 6, 7, 8].find? fun id => !(c.block id).present

/-- R46 check 4: a reel's curve is non-decreasing. -/
def curveRises (s : State) (r : Reel) : Bool :=
  (List.range 16).all fun i => decide (s.curve r i ≤ s.curve r (i + 1))

/-- R46: the first check that fails, with its detail byte. -/
def commitFailure (s : State) : Option (Nat × Nat) :=
  match absentBlock s.config with
  | some id => some (1, id)
  | none =>
    if ¬ (s.rHub < s.rStart ∧ s.rStart ≤ s.rMax) then some (2, 0)
    else if ¬ s.rMax ≤ s.rHub + 32 * s.bandW then some (3, 0)
    else if curveRises s .supply = false then some (4, 1)
    else if curveRises s .takeup = false then some (4, 2)
    else if ¬ (s.holdLow < s.holdHigh ∧ s.holdHigh ≤ 16) then some (5, 0)
    else if ¬ (s.creepSpeed ≤ s.jogMax ∧ s.jogMax ≤ s.windMax) then some (6, 0)
    else if ¬ (s.playSpeed false ≤ s.capstanMax ∧ s.playSpeed true ≤ s.capstanMax) then some (7, 0)
    else if ¬ (s.lockWindow < s.lossWindow ∧ s.lossWindow ≤ s.phaseWindow ∧ s.phaseWindow < s.acqWindow) then some (8, 0)
    else if s.activeProfile.complete = false then some (9, s.profile.active.val)
    else none

/-- R47: the CONFIG_STATE notice. -/
def queueConfigState (state cause : Byte) (s : State) : State := queueNotice 0xC0 0 [state, cause] s

/-- R108: the pending position is applied under the committed parameters. -/
def applyPending (s : State) : State :=
  match s.position.pending with
  | none => s
  | some t => s.withPosition { s.position with p := countOf s t.toNat, pending := none, track := .coasting }

/-- R45, R69, R95, R108, R110, R134, R148, R178: what a successful commit does at its completion event. -/
def commitEffects (s : State) : State :=
  let s1 := enterRest .braked (s.withConfig { s.config with valid := true })
  let s2 := (s1.withSupply (forgetRadius s.rStart s1.supply)).withTakeup (forgetRadius s.rStart s1.takeup)
  let s3 := s2.withProtection { s2.protection with
    overSup := 0, overTak := 0, tapeOut := false, leaderSup := false, leaderTak := false }
  queueConfigState 1 1 (applyPending (closeGates s3))

/-- CONFIG_COMMIT (R45). -/
def configCommit (tag : Byte) (params : List Byte) (s : State) : State :=
  if params.length ≠ 0 then reply 0x11 tag .badLength [] s
  else if s.config.valid then reply 0x11 tag .wrongState [] s
  else
    match commitFailure s with
    | some (n, detail) => reply 0x11 tag .checkFailed [BitVec.ofNat 8 n, BitVec.ofNat 8 detail] s
    | none => reply 0x11 tag .ok [] (commitEffects s)

def execConfigCommit (tag : Byte) (params : List Byte) (s : State) : Host.Outcome State Fault Refusal :=
  .next (atCompletion 0x11 tag params (configCommit tag params) s)

/-! ## CONFIG_OPEN (R48) -/

/-- R48, R8, R69, R95, R110, R163, R178: what an accepted open does, in its order. The microseconds the STOPPED timer then holds, 0,
are the model's choice (log 40). -/
def openEffects (s : State) : State :=
  let s1 := s.withConfig { s.config with valid := false }
  let s2 := flushQueue 4 (endActive .flushed false s1)
  let s3 := closeGates (enterRest .safe s2)
  let s4 := s3.withProtection { s3.protection with overSup := 0, overTak := 0 }
  let s5 := s4.withPosition { clearRuns s4.position with track := .absent, trackAge := 0, vMeas := 0, pending := none }
  let s6 := s5.withChase { s5.chase with history := [], vr := none, basis := 0 }
  let s7 := s6.withRing { s6.ring with timer := .stopped, elapsed := 0 }
  queueConfigState 0 2 s7

/-- CONFIG_OPEN (R48). -/
def configOpen (tag : Byte) (params : List Byte) (s : State) : State :=
  if params.length ≠ 0 then reply 0x12 tag .badLength [] s
  else if s.planner.transport = .braked ∨ s.planner.transport = .stopped then reply 0x12 tag .ok [] (openEffects s)
  else reply 0x12 tag .wrongState [] s

def execConfigOpen (tag : Byte) (params : List Byte) (s : State) : Host.Outcome State Fault Refusal :=
  .next (atCompletion 0x12 tag params (configOpen tag params) s)

/-! ## CONFIG_CLEAR and CONFIG_READ (R49, R50) -/

/-- R49: every block absent, with zero contents. -/
def clearBlocks (s : State) : State := s.withConfig { ConfigStore.initial with valid := s.config.valid }

/-- CONFIG_CLEAR (R49). -/
def configClear (tag : Byte) (params : List Byte) (s : State) : State :=
  if params.length ≠ 0 then reply 0x13 tag .badLength [] s
  else if s.config.valid then reply 0x13 tag .inUse [] s
  else reply 0x13 tag .ok [] (clearBlocks s)

def execConfigClear (tag : Byte) (params : List Byte) (s : State) : Host.Outcome State Fault Refusal :=
  .next (atCompletion 0x13 tag params (configClear tag params) s)

/-- R50: the contents CONFIG_READ returns of a block, all zero bytes where it is absent. -/
def shownContents (id : Nat) (b : Block) : List Byte :=
  if b.present then b.contents else List.replicate (blockLength id) 0

/-- CONFIG_READ's reply data (R50). -/
def configReadData (id : Byte) (s : State) : List Byte :=
  let b := s.config.block id.toNat
  let shown := shownContents id.toNat b
  [id, BitVec.ofNat 8 (bit b.present)] ++ shown ++ word16Bytes (blockCrc id shown)

/-- CONFIG_READ (R50). -/
def configRead (tag : Byte) (params : List Byte) (s : State) : State :=
  let id := paramByte params 0
  if params.length ≠ 1 then reply 0x14 tag .badLength [] s
  else if id.toNat < 1 ∨ 8 < id.toNat then reply 0x14 tag .badValue [] s
  else reply 0x14 tag .ok (configReadData id s) s

def execConfigRead (tag : Byte) (params : List Byte) (s : State) : Host.Outcome State Fault Refusal :=
  .next (atCompletion 0x14 tag params (configRead tag params) s)

end Sys2Proof.Machine
end

