-- ==== Sys2Proof/Machine/Locate.lean ====
section
/-! DEFINITION. The locate approach (chapter 8): its step at a movement record, its ends, and RESUME. Starting a locate is in
Requests.lean. -/

namespace Sys2Proof.Machine

/-- R139, R140: how an approach ends. -/
inductive ApproachEnd where
  | parked
  | unsettled
deriving DecidableEq, Repr

/-! ## The approach step (R136 to R140)

The position p of a step is the position after the record, P1 plus any jump (R136). -/

/-- R136: v. -/
def approachSpeed (s : State) : Nat := s.planner.vRef.natAbs

/-- R136: the stopping distance of a speed at a limit. -/
def stopDistance (v aLim : Nat) : Nat := v * v / (512 * aLim)

/-- R136: the margin of a speed. -/
def stopMargin (v : Nat) : Nat := ceilDiv v 256

/-- |D| ≤ PARK_WINDOW (R137, R139, R140). -/
def withinPark (p : Word32) (s : State) : Bool := decide (|distanceFrom p s| ≤ s.parkWindow)

/-- R137, R139: D is non-zero with its sign opposite to the approach direction. -/
def passedTarget (p : Word32) (s : State) : Bool := against s.planner.loc.reverse (distanceFrom p s)

/-- R137: the braking test. -/
def brakingTest (p : Word32) (s : State) : Bool :=
  along s.planner.loc.reverse s.planner.vRef &&
    decide ((distanceFrom p s).natAbs ≤ stopDistance (approachSpeed s) (accelLimit s) + stopMargin (approachSpeed s))

/-- R138: the target speed of DECEL. -/
def decelTarget (s : State) : Int :=
  directed s.planner.loc.reverse
    (min (approachLimit s) (max (s.creepSpeed : Int) ((approachSpeed s : Int) - accelLimit s)))

/-- R138: the phase is DECEL, its target set from this step. -/
def enterDecel (s : State) : State :=
  let s1 := setLocate { s.planner.loc with phase := .decel } s
  setTarget (decelTarget s1) s1

/-- R140: the step in RECOVER. -/
def recoverStep (p : Word32) (s : State) : State :=
  if s.planner.vRef ≠ 0 then s
  else if withinPark p s then enterPark s
  else enterCruise (decide (distanceFrom p s < 0)) s

/-- R140: an overshoot; an overshoot found at rest makes the RECOVER step at once. -/
def overshoot (p : Word32) (s : State) : State × Option ApproachEnd :=
  let n := s.planner.loc.overshoots + 1
  let s1 := setLocate { s.planner.loc with overshoots := n } s
  if 3 ≤ n then (s1, some .unsettled)
  else
    let s2 := setTarget 0 (setLocate { s1.planner.loc with phase := .recover } s1)
    (if s.planner.loc.phase = .park then recoverStep p s2 else s2, none)

/-- R137: the step in CRUISE. -/
def cruiseStep (p : Word32) (s : State) : State × Option ApproachEnd :=
  if withinPark p s then (enterPark s, none)
  else if passedTarget p s then overshoot p s
  else if brakingTest p s then (enterDecel s, none)
  else (setTarget (directed s.planner.loc.reverse (approachLimit s)) s, none)

/-- R138: the step in DECEL. -/
def decelStep (p : Word32) (s : State) : State × Option ApproachEnd :=
  if withinPark p s then (enterPark s, none)
  else if passedTarget p s then overshoot p s
  else (enterDecel s, none)

/-- R139: the step in PARK. -/
def parkStep (p : Word32) (s : State) : State × Option ApproachEnd :=
  if s.planner.vRef ≠ 0 then (s, none)
  else if withinPark p s then (s, some .parked)
  else if passedTarget p s then overshoot p s
  else (enterCruise s.planner.loc.reverse s, none)

/-- R136: the approach step, by phase. -/
def approachStep (p : Word32) (s : State) : State × Option ApproachEnd :=
  match s.planner.loc.phase with
  | .none | .wait => (s, none)
  | .cruise => cruiseStep p s
  | .decel => decelStep p s
  | .park => parkStep p s
  | .recover => (recoverStep p s, none)

/-! ## The ends (R139 to R144) -/

/-- R141: the budget of a request locate is counted, and at 0 the request ends TIMEOUT. -/
def countBudget (s : State) : State :=
  let s1 := setLocate { s.planner.loc with remaining := s.planner.loc.remaining - 1 } s
  if s1.planner.loc.remaining = 0 then endMoving .timeout s1 else s1

/-- R136 to R141: a request locate at a movement record. -/
def requestLocateStep (m : MovementRecord) (s : State) : State :=
  match approachStep m.after s with
  | (s1, some .parked) => endMoving .completed s1
  | (s1, some .unsettled) => endMoving .unsettled s1
  | (s1, none) => countBudget s1

/-- R144: the end of an internal locate: phase NONE, target speed 0, and the report to the Chase Unit. -/
def endInternal (e : ApproachEnd) (s : State) : State :=
  let s1 := setTarget 0 (clearPhase s)
  match e with
  | .parked => reportParked s1
  | .unsettled => reportUnsettled s1

/-- R144: WAIT ends when the pinch is RELEASED and v_ref is 0. -/
def waitOver (s : State) : Bool := s.planner.pinch == .released && decide (s.planner.vRef = 0)

/-- R144: an internal locate in WAIT at a movement record; the activation's record makes no approach step. -/
def waitStep (s : State) : State := if waitOver s then activateInternal s else s

/-- R130, R144: the internal locate of a CHASE at a movement record. -/
def internalLocateStep (m : MovementRecord) (s : State) : State :=
  if internalInProgress s = false then s
  else if s.planner.loc.phase = .wait then waitStep s
  else
    match approachStep m.after s with
    | (s1, some e) => endInternal e s1
    | (s1, none) => s1

/-! ## Events (log 3) -/

/-- A request locate is in progress. -/
def requestLocating (s : State) : Bool :=
  s.config.valid && s.planner.transport == .locate && s.planner.loc.kind == .request && s.planner.loc.phase != .none

/-- An internal locate is in progress in CHASE. -/
def internalLocating (s : State) : Bool := s.config.valid && s.planner.transport == .chase && internalInProgress s

/-- LOCATE_PARKED (R139): in PARK, at rest within PARK_WINDOW; the P held stands for that of the record (log 3). -/
def parkedDue (s : State) : Bool :=
  (requestLocating s || internalLocating s) && s.planner.loc.phase == .park && decide (s.planner.vRef = 0) &&
    withinPark s.position.p s

/-- R139, R142, R144: the locate parks. -/
def parkLocate (s : State) : State :=
  if s.planner.loc.kind = .internal then endInternal .parked s else endMoving .completed s

def execLocateParked (s : State) : Host.Outcome State Fault Refusal := .next (whenDue (parkedDue s) parkLocate s)

/-- LOCATE_TIMEOUT (R141): the count that takes the budget of a request locate to 0. -/
def timeoutDue (s : State) : Bool := requestLocating s && decide (s.planner.loc.remaining ≤ 1)

def execLocateTimeout (s : State) : Host.Outcome State Fault Refusal := .next (whenDue (timeoutDue s) countBudget s)

/-- INTERNAL_LOCATE_ACTIVATE (R144): in WAIT, the pinch RELEASED and v_ref 0. -/
def activateDue (s : State) : Bool := internalLocating s && s.planner.loc.phase == .wait && waitOver s

def execInternalLocateActivate (s : State) : Host.Outcome State Fault Refusal :=
  .next (whenDue (activateDue s) activateInternal s)

/-! ## RESUME (R143) -/

/-- R143: the record RESUME builds. -/
def resumeRecord (s : State) (tag : Byte) (target : Nat) : Request :=
  { kind := .locate, tag := tag, speedB := false, reverse := false, untilAt := none, speed := s.windMax, frames := 0,
    target := target, offset := 0, errors := { speedClamped := false, untilBehind := false, offsetClamped := false } }

/-- RESUME (R143). -/
def resume (tag : Byte) (params : List Byte) (s : State) : State :=
  if params.length ≠ 1 then reply 0x2C tag .badLength [] s
  else if s.planner.transport = .safe then reply 0x2C tag .configInvalid [] s
  else
    match s.planner.resume with
    | none => reply 0x2C tag .noResume [] s
    | some address =>
      if Config.motionCapacity ≤ s.planner.queue.length then reply 0x2C tag .queueFull [] s
      else
        let s1 := takeHead (appendRequest (resumeRecord s (paramByte params 0) address) s)
        reply 0x2C tag .ok
          ([paramByte params 0, BitVec.ofNat 8 s1.planner.queue.length, 0] ++ leBytes 4 address) s1

def execResume (tag : Byte) (params : List Byte) (s : State) : Host.Outcome State Fault Refusal :=
  .next (atCompletion 0x2C tag params (resume tag params) s)

end Sys2Proof.Machine
end

