-- ==== Sys2Proof/Machine/Motion.lean ====
section
/-! DEFINITION. The Motion Planner (chapter 7): its work at a movement record, the published reference, and its commands. -/

namespace Sys2Proof.Machine

/-! ## The work at a movement record (R126) -/

/-- R129: the pinch step. -/
def pinchStep (s : State) : State :=
  match s.planner.pinch with
  | .released => s
  | .engaging n => if n ≤ 1 then retarget (setPinch .engaged s) else setPinch (.engaging (n - 1)) s
  | .engaged => if releaseCalled s = true ∧ s.planner.vRef = 0 then startReleasing s else s
  | .releasing n => if n ≤ 1 then setPinch .released s else setPinch (.releasing (n - 1)) s

/-- R119: an open-ended request. -/
def Request.openEnded (r : Request) : Bool :=
  match r.kind with
  | .play | .wind => r.untilAt.isNone
  | .chase => true
  | _ => false

/-- R123: the until address is crossed in the request's direction. -/
def untilCrossed (r : Request) (m : MovementRecord) : Bool :=
  match r.untilAt with
  | none => false
  | some u => if r.reverse then decide ((u : Int) ≤ m.s0 ∧ m.s1 < u) else decide (m.s0 < u ∧ (u : Int) ≤ m.s1)

/-- R122: the active request is open-ended, in a moving state, and a record stands at the queue head. -/
def supersessionDue (s : State) : Bool :=
  match s.planner.active with
  | some r => s.config.valid && s.planner.transport.moving && r.openEnded && !s.planner.queue.isEmpty
  | none => false

/-- R122. -/
def supersede (s : State) : State := if supersessionDue s then endMoving .superseded s else s

/-- R124: an active DWELL ends COMPLETED, and the head is taken. -/
def expireDwell (s : State) : State := takeHead (endActive .completed false s)

/-- The active request is a DWELL. -/
def dwellActive (s : State) : Bool :=
  match s.planner.active with
  | some r => r.kind == .dwell
  | none => false

/-- R124: a DWELL at a record; a late one became active at a HALT cue after the record was published, and does not count it. -/
def dwellStep (late : Bool) (s : State) : State :=
  if late then s
  else if s.planner.dwell ≤ 1 then expireDwell s
  else s.withPlanner { s.planner with dwell := s.planner.dwell - 1 }

/-- R126 step 2: the active request advances by its kind; the supersession test follows, on the same request (log 18). -/
def activeStep (late : Bool) (m : MovementRecord) (s : State) : State :=
  match s.planner.active with
  | none => s
  | some r =>
    match r.kind with
    | .play | .wind => if untilCrossed r m then endMoving .completed s else supersede s
    | .locate => requestLocateStep m s
    | .chase => supersede (internalLocateStep m s)
    | .dwell => dwellStep late s
    | .stop => s

/-- R125: the halt has ended: v_ref is 0 and the pinch is RELEASED. -/
def haltOver (s : State) : Bool :=
  s.planner.transport == .halting && decide (s.planner.vRef = 0) && s.planner.pinch == .released

/-- R125, R126 step 3. -/
def haltTest (s : State) : State := if haltOver s then enterStopped s else s

/-- R126: the planner's work at a movement record, on the request active at its turn, a late DWELL apart (R124, log 41); the
halting test is made where HALTING stood before step 2. -/
def plannerWork (late : Bool) (m : MovementRecord) (s : State) : State :=
  let s1 := activeStep late m (pinchStep s)
  if s.planner.transport = .halting then haltTest s1 else s1

/-! ## The reference (R127, R128) -/

/-- R127: the target is limited while a radius is unknown. -/
def capApplies (s : State) : Bool :=
  (!s.supply.known || !s.takeup.known) &&
    (s.planner.transport == .wind || s.planner.transport == .locate ||
      (s.planner.transport == .chase && s.planner.mode == .locate))

/-- R127: the target a publication uses. -/
def cappedTarget (s : State) : Int := if capApplies s then clampSym s.jogMax s.planner.target else s.planner.target

/-- R128 step 5: the class published with a new v_ref. -/
def publishedClass (s : State) (v : Int) : MotionClass :=
  match s.planner.transport with
  | .play => .play
  | .wind => .wind
  | .locate => .locate
  | .chase => if internalInProgress s then .locate else if s.planner.pinch.holds then .play else .hold
  | .halting => if v = 0 then .hold else s.planner.haltingClass
  | _ => .hold

/-- R128 step 6: the leading reel. -/
def leadingReel (old : Reel) (v : Int) : Reel := if 0 < v then .takeup else if v < 0 then .supply else old

/-- R128: the reference published from the target in force. -/
def publishReference (s : State) : State :=
  let v := moveToward (accelLimit s) (cappedTarget s) s.planner.vRef
  s.withPlanner { s.planner with
    vRef := v, aRef := v - s.planner.vRef, refClass := publishedClass s v, leading := leadingReel s.planner.leading v }

/-- R128: the publication at the departure of a good frame. -/
def publish (s : State) : State :=
  if s.planner.transport.resting then s.withPlanner { s.planner with vRef := 0, aRef := 0, refClass := .hold }
  else publishReference (retarget s)

/-! ## Events (log 3) -/

/-- SUPERSESSION (R122). -/
def execSupersession (s : State) : Host.Outcome State Fault Refusal :=
  .next (whenDue (supersessionDue s) (endMoving .superseded) s)

/-- PINCH_ENGAGED (R129): the record that takes the ENGAGING count to 0. -/
def engagedDue (s : State) : Bool :=
  match s.planner.pinch with
  | .engaging n => s.config.valid && decide (n ≤ 1)
  | _ => false

def execPinchEngaged (s : State) : Host.Outcome State Fault Refusal := .next (whenDue (engagedDue s) pinchStep s)

/-- PINCH_RELEASED (R129): the record that takes the RELEASING count to 0. -/
def releasedDue (s : State) : Bool :=
  match s.planner.pinch with
  | .releasing n => s.config.valid && decide (n ≤ 1)
  | _ => false

def execPinchReleased (s : State) : Host.Outcome State Fault Refusal := .next (whenDue (releasedDue s) pinchStep s)

/-- DWELL_EXPIRY (R124): the record that takes the count of an active DWELL to 0. -/
def dwellDue (s : State) : Bool := s.config.valid && dwellActive s && decide (s.planner.dwell ≤ 1)

def execDwellExpiry (s : State) : Host.Outcome State Fault Refusal := .next (whenDue (dwellDue s) expireDwell s)

/-- HALT_COMPLETE (R125). -/
def execHaltComplete (s : State) : Host.Outcome State Fault Refusal :=
  .next (whenDue (s.config.valid && haltOver s) enterStopped s)

/-! ## QUEUE_MOTION (R114, R115) -/

/-- Section 1.6: the fields of a motion request record. -/
def requestFlag (params : List Byte) (i : Nat) : Bool := (paramByte params 2).getLsbD i
def requestSpeed (params : List Byte) : Nat := natField params 3 2
def requestAddress (params : List Byte) : Nat := natField params 5 4
def requestOffset (params : List Byte) : Int := intField params 5 4

/-- A record of a kind with every field it does not use at zero. -/
def bareRequest (kind : RequestKind) (tag : Byte) : Request :=
  { kind := kind, tag := tag, speedB := false, reverse := false, untilAt := none, speed := 0, frames := 0, target := 0,
    offset := 0, errors := { speedClamped := false, untilBehind := false, offsetClamped := false } }

/-- The until address a PLAY or WIND carries. -/
def carriedUntil (params : List Byte) : Option Nat := if requestFlag params 2 then some (requestAddress params) else none

/-- R115: a speed, or a LOCATE's limit, brought within WIND_MAX. -/
def clampSpeed (s : State) (speed : Nat) (r : Request) : Request :=
  { r with speed := min speed s.windMax, errors := { r.errors with speedClamped := decide (s.windMax < speed) } }

/-- R115: a CHASE's offset brought into range. -/
def clampOffset (offset : Int) (r : Request) : Request :=
  let x := clampSym Config.offsetLimit offset
  { r with offset := x, errors := { r.errors with offsetClamped := decide (x ≠ offset) } }

/-- R115: the record as it is queued: clamped, and tagged. -/
def buildRequest (kind : RequestKind) (params : List Byte) (s : State) : Request :=
  let r := bareRequest kind (paramByte params 1)
  match kind with
  | .play => testUntil s { r with speedB := requestFlag params 0, untilAt := carriedUntil params }
  | .wind =>
    testUntil s (clampSpeed s (requestSpeed params)
      { r with reverse := requestFlag params 1, untilAt := carriedUntil params })
  | .locate =>
    clampSpeed s (if requestFlag params 3 then requestSpeed params else s.windMax)
      { r with target := requestAddress params }
  | .chase => clampOffset (requestOffset params) r
  | .stop => r
  | .dwell => { r with frames := requestSpeed params }

/-- R114 check 4: a DWELL of no frames, a WIND of no speed, a LOCATE with a limit of 0. -/
def emptyRequest (kind : RequestKind) (params : List Byte) : Bool :=
  match kind with
  | .wind | .dwell => requestSpeed params == 0
  | .locate => requestFlag params 3 && requestSpeed params == 0
  | _ => false

/-- R114: the reply's RESULT. -/
def queueResult (r : Request) : Result := if r.errors.speedClamped || r.errors.offsetClamped then .clamped else .ok

/-- QUEUE_MOTION (R114). -/
def queueMotion (tag : Byte) (params : List Byte) (s : State) : State :=
  if params.length ≠ 9 then reply 0x28 tag .badLength [] s
  else if s.planner.transport = .safe then reply 0x28 tag .configInvalid [] s
  else
    match requestKindOf (natField params 0 1) with
    | none => reply 0x28 tag .badValue [] s
    | some kind =>
      if emptyRequest kind params then reply 0x28 tag .badValue [] s
      else if Config.motionCapacity ≤ s.planner.queue.length then reply 0x28 tag .queueFull [] s
      else
        let r := buildRequest kind params s
        let s1 := takeHead (appendRequest r s)
        reply 0x28 tag (queueResult r) [r.tag, BitVec.ofNat 8 s1.planner.queue.length, errorByte r.errors] s1

def execQueueMotion (tag : Byte) (params : List Byte) (s : State) : Host.Outcome State Fault Refusal :=
  .next (atCompletion 0x28 tag params (queueMotion tag params) s)

/-! ## STOP_NOW, FLUSH, SET_VARISPEED (R117, R118, R131) -/

/-- R118 steps 1 to 3. -/
def stopMotion (s : State) : State :=
  let s1 := endActive .flushed false (flushQueue 1 s)
  if s.planner.transport.moving then settleGates 1 (enterHalting s1) else s1

/-- STOP_NOW (R118). -/
def stopNow (tag : Byte) (params : List Byte) (s : State) : State :=
  if params.length ≠ 0 then reply 0x29 tag .badLength [] s
  else if s.planner.transport = .safe then reply 0x29 tag .wrongState [] s
  else
    reply 0x29 tag .ok
      [BitVec.ofNat 8 s.planner.queue.length, BitVec.ofNat 8 (bit s.planner.active.isSome), activeTag s] (stopMotion s)

def execStopNow (tag : Byte) (params : List Byte) (s : State) : Host.Outcome State Fault Refusal :=
  .next (atCompletion 0x29 tag params (stopNow tag params) s)

/-- FLUSH (R117). -/
def flush (tag : Byte) (params : List Byte) (s : State) : State :=
  if params.length ≠ 0 then reply 0x2A tag .badLength [] s
  else if s.planner.transport = .safe then reply 0x2A tag .wrongState [] s
  else reply 0x2A tag .ok [BitVec.ofNat 8 s.planner.queue.length] (flushQueue 2 s)

def execFlush (tag : Byte) (params : List Byte) (s : State) : Host.Outcome State Fault Refusal :=
  .next (atCompletion 0x2A tag params (flush tag params) s)

/-- R131: the ratio of a varispeed in basis points. -/
def varispeedRatio (bp : Int) : Nat := (roundDiv (4096 * (10000 + bp)) 10000).toNat

/-- R131: the varispeed a ratio obtains. -/
def obtainedVarispeed (ratio : Nat) : Int := roundDiv (ratio * 10000) 4096 - 10000

/-- SET_VARISPEED (R131). -/
def setVarispeed (tag : Byte) (params : List Byte) (s : State) : State :=
  if params.length ≠ 2 then reply 0x2B tag .badLength [] s
  else
    let asked := intField params 0 2
    let bp := clampSym Config.varispeedLimit asked
    let ratio := varispeedRatio bp
    reply 0x2B tag (if bp = asked then .ok else .clamped) (leBytes 2 ratio ++ leIntBytes 2 (obtainedVarispeed ratio))
      (s.withPlanner { s.planner with ratio := ratio })

def execSetVarispeed (tag : Byte) (params : List Byte) (s : State) : Host.Outcome State Fault Refusal :=
  .next (atCompletion 0x2B tag params (setVarispeed tag params) s)

/-! ## READ_TRANSPORT (R132) -/

/-- R134: the locate record's eleven bytes. -/
def locateBytes (r : LocateRecord) : List Byte :=
  [r.kind.code, r.phase.code ||| (if r.reverse then 0x80 else 0)] ++ word32Bytes r.target ++ leBytes 4 r.remaining ++
    [BitVec.ofNat 8 r.overshoots]

/-- R132: the active request's kind, tag and error tags, 0 when none. -/
def activeBytes (a : Option Request) : List Byte :=
  match a with
  | some r => [r.kind.code, r.tag, errorByte r.errors]
  | none => [0, 0, 0]

/-- READ_TRANSPORT's reply data (R132). -/
def readTransportData (s : State) : List Byte :=
  let p := s.planner
  [p.transport.code] ++ activeBytes p.active ++ [BitVec.ofNat 8 p.queue.length, BitVec.ofNat 8 (bit p.hold)] ++
    leIntBytes 4 p.vRef ++ leIntBytes 4 p.aRef ++ [p.refClass.code, reelCode p.leading] ++ leIntBytes 4 p.target ++
    leBytes 2 p.capCommand ++ [p.pinch.code] ++ leBytes 2 p.pinch.count ++ leBytes 2 p.ratio ++ leBytes 2 p.dwell ++
    locateBytes p.loc ++ [BitVec.ofNat 8 (bit p.resume.isSome)] ++ addressBytes p.resume

/-- READ_TRANSPORT (R132). -/
def readTransport (tag : Byte) (params : List Byte) (s : State) : State :=
  if params.length ≠ 0 then reply 0x2D tag .badLength [] s else reply 0x2D tag .ok (readTransportData s) s

def execReadTransport (tag : Byte) (params : List Byte) (s : State) : Host.Outcome State Fault Refusal :=
  .next (atCompletion 0x2D tag params (readTransport tag params) s)

end Sys2Proof.Machine
end

