-- ==== Sys2Proof/Machine/Profiles.lean ====
section
/-! DEFINITION. The Profile Unit (chapter 4): the load window, streamed entries, selection, clearing and reading. -/

namespace Sys2Proof.Machine

/-- A profile replaced. -/
def setProfile (p : Fin 4) (x : Profile) (s : State) : State :=
  s.withProfile { s.profile with profiles := s.profile.profiles.set p.val x }

/-! ## PROFILE_WINDOW (R54) -/

/-- PROFILE_WINDOW (R54). -/
def profileWindow (tag : Byte) (params : List Byte) (s : State) : State :=
  let p := (paramByte params 0).toNat
  let first := (paramByte params 1).toNat
  let last := (paramByte params 2).toNat
  if params.length ≠ 3 then reply 0x18 tag .badLength [] s
  else if 3 < p ∨ 31 < first ∨ 31 < last then reply 0x18 tag .badValue [] s
  else if last < first then reply 0x18 tag .badValue [] s
  else if profileInUse s (Fin.ofNat 4 p) then reply 0x18 tag .inUse [] s
  else
    reply 0x18 tag .ok [] (s.withProfile { s.profile with
      window := some { profile := Fin.ofNat 4 p, first := Fin.ofNat 32 first, last := Fin.ofNat 32 last,
                       counter := Fin.ofNat 32 first } })

def execProfileWindow (tag : Byte) (params : List Byte) (s : State) : Host.Outcome State Fault Refusal :=
  .next (atCompletion 0x18 tag params (profileWindow tag params) s)

/-! ## PROFILE_DATA (R55 to R57) -/

/-- R55: the opening checks, first failure first; none when the opening is accepted. -/
def profileOpening (len : Nat) (s : State) : Option Result :=
  if len = 0 ∨ len % 9 ≠ 0 then some .badLength
  else
    match s.profile.window with
    | none => some .noWindow
    | some w => if profileInUse s w.profile then some .inUse else none

/-- R55: an accepted opening. -/
def startProfileData (s : State) : State := s.withProfile { s.profile with count := 0, result := .ok }

/-- R56 steps 3 to 5: the entry is written at the counter, the complete flag tested, and the counter advanced. -/
def writeBand (w : LoadWindow) (b : Band) (s : State) : State :=
  let p := s.profile.profiles[w.profile]
  let written := p.written ||| BitVec.ofNat 32 (2 ^ w.counter.val)
  let p1 : Profile :=
    { bands := p.bands.set w.counter.val b, written := written, complete := p.complete || written == BitVec.allOnes 32 }
  let s1 := setProfile w.profile p1 s
  s1.withProfile { s1.profile with
    count := s1.profile.count + 1,
    window := some { w with counter := if w.counter = w.last then w.first else w.counter + 1 } }

/-- R56: an entry of an accepted PROFILE_DATA is handed over. -/
def profileEntry (bs : List Byte) (s : State) : State :=
  match s.profile.window with
  | none => s
  | some w =>
    if s.profile.result = .inUse then s
    else if profileInUse s w.profile then s.withProfile { s.profile with result := .inUse }
    else
      let b := clampBand (bandOf bs)
      let result := if b ≠ bandOf bs ∧ s.profile.result = .ok then .clamped else s.profile.result
      writeBand w b (s.withProfile { s.profile with result := result })

/-- R57: the reply's data at completion. -/
def profileDataReply (s : State) : List Byte :=
  match s.profile.window with
  | none => [0xFF, BitVec.ofNat 8 s.profile.count, 0, 0]
  | some w =>
    [BitVec.ofNat 8 w.profile.val, BitVec.ofNat 8 s.profile.count, BitVec.ofNat 8 w.counter.val,
      BitVec.ofNat 8 (bit s.profile.profiles[w.profile].complete)]

/-- R57: an accepted PROFILE_DATA completes. -/
def finishProfileData (tag : Byte) (s : State) : State := reply 0x19 tag s.profile.result (profileDataReply s) s

/-- R28: the entries of n bytes that a run of bytes holds, in order. -/
def entriesOf (n : Nat) (bs : List Byte) : List (List Byte) :=
  (List.range (bs.length / n)).map fun i => (bs.drop (n * i)).take n

/-- PROFILE_DATA as one command (R55 to R57, log 5): opened, every entry handed over, completed. A refusal at the opening is
queued at once (R28). -/
def execProfileData (tag : Byte) (params : List Byte) (s : State) : Host.Outcome State Fault Refusal :=
  let s1 := clearAssembly s
  .next
    (if Config.maxLen < params.length then reply 0x19 tag .badLength [] s1
     else
       match profileOpening params.length s1 with
       | some r => reply 0x19 tag r [] s1
       | none =>
         let s2 := (entriesOf 9 params).foldl (fun t e => profileEntry e t) (startProfileData s1)
         atCompletion 0x19 tag params (finishProfileData tag) s2)

/-! ## PROFILE_SELECT, PROFILE_CLEAR, PROFILE_READ (R58, R60, R61) -/

/-- PROFILE_SELECT (R58). -/
def profileSelect (tag : Byte) (params : List Byte) (s : State) : State :=
  let p := (paramByte params 0).toNat
  if params.length ≠ 1 then reply 0x1A tag .badLength [] s
  else if 3 < p then reply 0x1A tag .badValue [] s
  else if s.profile.profiles[Fin.ofNat 4 p].complete = false then reply 0x1A tag .profileIncomplete [] s
  else reply 0x1A tag .ok [BitVec.ofNat 8 p] (switchProfile (Fin.ofNat 4 p) s)

def execProfileSelect (tag : Byte) (params : List Byte) (s : State) : Host.Outcome State Fault Refusal :=
  .next (atCompletion 0x1A tag params (profileSelect tag params) s)

/-- R60: a profile is cleared, and a window that names it becomes absent. -/
def clearProfile (p : Fin 4) (s : State) : State :=
  let s1 := setProfile p Profile.blank s
  match s.profile.window with
  | some w => if w.profile = p then s1.withProfile { s1.profile with window := none } else s1
  | none => s1

/-- PROFILE_CLEAR (R60). -/
def profileClear (tag : Byte) (params : List Byte) (s : State) : State :=
  let p := (paramByte params 0).toNat
  if params.length ≠ 1 then reply 0x1B tag .badLength [] s
  else if 3 < p then reply 0x1B tag .badValue [] s
  else if Fin.ofNat 4 p = s.profile.active ∧ s.config.valid = true then reply 0x1B tag .inUse [] s
  else reply 0x1B tag .ok [] (clearProfile (Fin.ofNat 4 p) s)

def execProfileClear (tag : Byte) (params : List Byte) (s : State) : Host.Outcome State Fault Refusal :=
  .next (atCompletion 0x1B tag params (profileClear tag params) s)

/-- R61: the window's four bytes. -/
def windowBytes (w : Option LoadWindow) : List Byte :=
  match w with
  | none => [0xFF, 0, 0, 0]
  | some w =>
    [BitVec.ofNat 8 w.profile.val, BitVec.ofNat 8 w.first.val, BitVec.ofNat 8 w.last.val, BitVec.ofNat 8 w.counter.val]

/-- PROFILE_READ's reply data (R61). -/
def profileReadData (p band : Nat) (s : State) : List Byte :=
  let prof := s.profile.profiles[Fin.ofNat 4 p]
  [BitVec.ofNat 8 p, BitVec.ofNat 8 band, BitVec.ofNat 8 (bit (prof.written.getLsbD band)),
      BitVec.ofNat 8 (bit prof.complete), BitVec.ofNat 8 s.profile.active.val] ++
    bandBytes (prof.band band) ++ windowBytes s.profile.window ++ word32Bytes prof.written

/-- PROFILE_READ (R61). -/
def profileRead (tag : Byte) (params : List Byte) (s : State) : State :=
  let p := (paramByte params 0).toNat
  let band := (paramByte params 1).toNat
  if params.length ≠ 2 then reply 0x1C tag .badLength [] s
  else if 3 < p ∨ 31 < band then reply 0x1C tag .badValue [] s
  else reply 0x1C tag .ok (profileReadData p band s) s

def execProfileRead (tag : Byte) (params : List Byte) (s : State) : Host.Outcome State Fault Refusal :=
  .next (atCompletion 0x1C tag params (profileRead tag params) s)

end Sys2Proof.Machine
end

