-- ==== Sys2Proof/Machine/Cues.lean ====
section
/-! DEFINITION. The Cue Unit (chapter 9): the duplicate rule, the table's commands, and the work at a movement record. -/

namespace Sys2Proof.Machine

/-! ## The duplicate rule (R149) -/

/-- R149: two directions overlap. -/
def directionsOverlap (a b : CueDirection) : Bool := a == b || a == .either || b == .either

/-- R149: two entries share an address with overlapping directions. -/
def CueEntry.overlaps (a b : CueEntry) : Bool := a.address == b.address && directionsOverlap a.direction b.direction

/-- Entry i of the table; an index above 31 reads as EMPTY. -/
def cueEntry (s : State) (i : Nat) : CueEntry := s.cue.entries.toList.getD i CueEntry.blank

/-- R150, R152: the lowest-indexed ARMED entry, other than the one at an index, that an entry overlaps. -/
def armedConflict (s : State) (index : Nat) (e : CueEntry) : Option Nat :=
  (List.range Config.cueCapacity).find? fun j =>
    j != index && (cueEntry s j).state == .armed && (cueEntry s j).overlaps e

/-- The entry at an index is replaced. -/
def setCue (index : Nat) (e : CueEntry) (s : State) : State :=
  s.withCue { s.cue with entries := s.cue.entries.setIfInBounds index e }

/-- R150, R152: the overlap test, made where the arm flag is set. -/
def writeConflict (s : State) (armed : Bool) (index : Nat) (e : CueEntry) : Option Nat :=
  if armed then armedConflict s index e else none

/-! ## CUE_WRITE (R150) -/

/-- CUE_WRITE (R150). -/
def cueWrite (tag : Byte) (params : List Byte) (s : State) : State :=
  let index := (paramByte params 0).toNat
  let armed := (paramByte params 1).getLsbD 0
  if params.length ≠ 10 then reply 0x30 tag .badLength [] s
  else if 31 < index then reply 0x30 tag .badValue [] s
  else
    match cueEntryOf armed (params.drop 2) with
    | none => reply 0x30 tag .badValue [] s
    | some e =>
      match writeConflict s armed index e with
      | some j => reply 0x30 tag .duplicate [BitVec.ofNat 8 j] s
      | none => reply 0x30 tag .ok [BitVec.ofNat 8 index] (setCue index e s)

def execCueWrite (tag : Byte) (params : List Byte) (s : State) : Host.Outcome State Fault Refusal :=
  .next (atCompletion 0x30 tag params (cueWrite tag params) s)

/-! ## CUE_WRITE_MANY (R151, R152) -/

/-- R151: the opening checks on LEN and the first index; none when the opening is accepted. -/
def cueOpening (len first : Nat) : Option Result :=
  if ¬ (len = 10 ∨ len = 18 ∨ len = 26 ∨ len = 34) then some .badLength
  else if Config.cueCapacity < first + (len - 2) / 8 then some .badValue
  else none

/-- R151: an accepted opening. -/
def startCueMany (first : Nat) (s : State) : State :=
  s.withCue { s.cue with writeIndex := first, count := 0, result := .ok, conflict := none }

/-- R152: an entry of an accepted CUE_WRITE_MANY is handed over. -/
def cueManyEntry (armed : Bool) (bs : List Byte) (s : State) : State :=
  if s.cue.result ≠ .ok then s
  else
    match cueEntryOf armed bs with
    | none => s.withCue { s.cue with result := .badValue }
    | some e =>
      match writeConflict s armed s.cue.writeIndex e with
      | some j => s.withCue { s.cue with result := .duplicate, conflict := some j }
      | none =>
        let s1 := setCue s.cue.writeIndex e s
        s1.withCue { s1.cue with count := s1.cue.count + 1, writeIndex := s1.cue.writeIndex + 1 }

/-- R152: the completion of an accepted CUE_WRITE_MANY. -/
def finishCueMany (tag first : Byte) (s : State) : State :=
  reply 0x31 tag s.cue.result
    [first, BitVec.ofNat 8 s.cue.count,
      match s.cue.conflict with
      | some j => BitVec.ofNat 8 j
      | none => 0xFF] s

/-- CUE_WRITE_MANY as one command (R151, R152, log 5): opened, every entry handed over, completed. LEN 0 or 1 is refused at
completion, another refusal of the opening at once. -/
def execCueWriteMany (tag : Byte) (params : List Byte) (s : State) : Host.Outcome State Fault Refusal :=
  let s1 := clearAssembly s
  let first := paramByte params 0
  let armed := (paramByte params 1).getLsbD 0
  .next
    (if Config.maxLen < params.length then reply 0x31 tag .badLength [] s1
     else if params.length ≤ 1 then atCompletion 0x31 tag params (reply 0x31 tag .badLength []) s1
     else
       match cueOpening params.length first.toNat with
       | some r => reply 0x31 tag r [] s1
       | none =>
         let s2 := (entriesOf 8 (params.drop 2)).foldl (fun t e => cueManyEntry armed e t) (startCueMany first.toNat s1)
         atCompletion 0x31 tag params (finishCueMany tag first) s2)

/-! ## CUE_ARM, CUE_DISARM, CUE_CLEAR (R153 to R155) -/

/-- The index mask a command carries. -/
def indexMask (params : List Byte) : Word32 := BitVec.ofNat 32 (natField params 0 4)

/-- The entries with those a test names changed. -/
def updateCues (named : Nat → Bool) (f : CueEntry → CueEntry) (s : State) : State :=
  s.withCue { s.cue with entries := s.cue.entries.mapIdx fun i e => if named i then f e else e }

/-- The indices 0..31 a test names, as a mask. -/
def maskOf (named : Nat → Bool) : Word32 :=
  BitVec.ofNat 32 (((List.range Config.cueCapacity).map fun i => if named i then 2 ^ i else 0).sum)

/-- R153: entry i is a candidate. -/
def armCandidate (s : State) (mask : Word32) (i : Nat) : Bool :=
  mask.getLsbD i && ((cueEntry s i).state == .disarmed || (cueEntry s i).state == .spent)

/-- R153: the ARMED entries, and the candidates of lower index, that candidate i overlaps. -/
def armOverlaps (s : State) (mask : Word32) (i : Nat) : List Nat :=
  (List.range Config.cueCapacity).filter fun j =>
    j != i && ((cueEntry s j).state == .armed || (armCandidate s mask j && decide (j < i))) &&
      (cueEntry s j).overlaps (cueEntry s i)

/-- R153: the first conflicting candidate. -/
def armFailure (s : State) (mask : Word32) : Option Nat :=
  (List.range Config.cueCapacity).find? fun i => armCandidate s mask i && !(armOverlaps s mask i).isEmpty

/-- R153: "the entry it overlaps"; among several the manual does not say which, and the choice is free (log 22). -/
def pickOverlap (l : List Nat) (s : State) : Nat × State :=
  match l with
  | [j] => (j, s)
  | _ => (l.getD ((drawNat s).1 % l.length) 0, (drawNat s).2)

/-- CUE_ARM (R153). -/
def cueArm (tag : Byte) (params : List Byte) (s : State) : State :=
  let mask := indexMask params
  if params.length ≠ 4 then reply 0x32 tag .badLength [] s
  else
    match armFailure s mask with
    | some i =>
      let picked := pickOverlap (armOverlaps s mask i) s
      reply 0x32 tag .duplicate [BitVec.ofNat 8 i, BitVec.ofNat 8 picked.1] picked.2
    | none =>
      reply 0x32 tag .ok (word32Bytes (maskOf (armCandidate s mask)))
        (updateCues (armCandidate s mask) (fun e => { e with state := .armed }) s)

def execCueArm (tag : Byte) (params : List Byte) (s : State) : Host.Outcome State Fault Refusal :=
  .next (atCompletion 0x32 tag params (cueArm tag params) s)

/-- R154: entry i is named and ARMED. -/
def disarmNamed (s : State) (mask : Word32) (i : Nat) : Bool := mask.getLsbD i && (cueEntry s i).state == .armed

/-- CUE_DISARM (R154). -/
def cueDisarm (tag : Byte) (params : List Byte) (s : State) : State :=
  let mask := indexMask params
  if params.length ≠ 4 then reply 0x33 tag .badLength [] s
  else
    reply 0x33 tag .ok (word32Bytes (maskOf (disarmNamed s mask)))
      (updateCues (disarmNamed s mask) (fun e => { e with state := .disarmed }) s)

def execCueDisarm (tag : Byte) (params : List Byte) (s : State) : Host.Outcome State Fault Refusal :=
  .next (atCompletion 0x33 tag params (cueDisarm tag params) s)

/-- R155: the named entries that are not EMPTY. -/
def clearCount (s : State) (mask : Word32) : Nat :=
  ((List.range Config.cueCapacity).filter fun i => mask.getLsbD i && (cueEntry s i).state != .empty).length

/-- CUE_CLEAR (R155). -/
def cueClear (tag : Byte) (params : List Byte) (s : State) : State :=
  let mask := indexMask params
  if params.length ≠ 4 then reply 0x34 tag .badLength [] s
  else
    reply 0x34 tag .ok [BitVec.ofNat 8 (clearCount s mask)] (updateCues mask.getLsbD (fun _ => CueEntry.blank) s)

def execCueClear (tag : Byte) (params : List Byte) (s : State) : Host.Outcome State Fault Refusal :=
  .next (atCompletion 0x34 tag params (cueClear tag params) s)

/-! ## CUE_READ (R156, R157) -/

/-- A gate action. -/
def CueAction.gate : CueAction → Bool
  | .gateOpen | .gateClose => true
  | _ => false

/-- R157: the effective address. -/
def effectiveAddress (s : State) (e : CueEntry) : Int := if e.action.gate then e.address + s.gateShift else e.address

/-- CUE_READ's reply data (R156); an EMPTY entry's action field is zero, GATE_OPEN (log 23). -/
def cueReadData (index : Nat) (s : State) : List Byte :=
  let e := cueEntry s index
  [BitVec.ofNat 8 index, e.state.code] ++ cueEntryBytes e ++
    leIntBytes 5 (if s.config.valid then effectiveAddress s e else 0) ++
    [s.cue.gates, BitVec.ofNat 8 (bit (gatesEnabled s))]

/-- CUE_READ (R156). -/
def cueRead (tag : Byte) (params : List Byte) (s : State) : State :=
  let index := (paramByte params 0).toNat
  if params.length ≠ 1 then reply 0x35 tag .badLength [] s
  else if 31 < index then reply 0x35 tag .badValue [] s
  else reply 0x35 tag .ok (cueReadData index s) s

def execCueRead (tag : Byte) (params : List Byte) (s : State) : Host.Outcome State Fault Refusal :=
  .next (atCompletion 0x35 tag params (cueRead tag params) s)

/-! ## Crossing and firing (R157 to R159) -/

/-- R157: a forward crossing of an address. -/
def crossedForward (m : MovementRecord) (a : Int) : Bool := decide (m.s0 < a ∧ a ≤ m.s1)

/-- R157: a reverse crossing of an address. -/
def crossedReverse (m : MovementRecord) (a : Int) : Bool := decide (a ≤ m.s0 ∧ m.s1 < a)

/-- R157: the entry is ARMED and crossed in a direction it takes. -/
def entryFires (s : State) (m : MovementRecord) (e : CueEntry) : Bool :=
  let a := effectiveAddress s e
  e.state == .armed &&
    match e.direction with
    | .fwd => crossedForward m a
    | .rev => crossedReverse m a
    | .either => crossedForward m a || crossedReverse m a

/-- R157: the entries fired on a record, in index order, from the table as it stands. -/
def firedEntries (s : State) (m : MovementRecord) : List (Nat × CueEntry) :=
  ((List.range Config.cueCapacity).map fun i => (i, cueEntry s i)).filter fun x => entryFires s m x.2

/-- A gate entry that has fired, with the SUBJECT of its CUE_FIRED (R160). -/
structure FiredGate where
  index : Nat
  entry : CueEntry
  subject : Byte
deriving DecidableEq, Repr

/-- R159: a fired PROFILE entry asks for its switch. -/
def cueSwitch (i : Nat) (e : CueEntry) (subject : Byte) (s : State) : State :=
  if s.profile.profiles[e.profile].complete then switchProfile e.profile s
  else queueNotice 0xC7 subject ([BitVec.ofNat 8 i, BitVec.ofNat 8 e.profile.val] ++ leBytes 2 e.label) s

/-- R158 step 3, R159: the action of a fired entry; a gate action waits for the resolution. -/
def cueAct (i : Nat) (e : CueEntry) (subject : Byte) (s : State) : State :=
  match e.action with
  | .halt => orderHalt .cueHalt false s
  | .profile => cueSwitch i e subject s
  | _ => s

/-- R158: a fired entry is handled. -/
def fireEntry (m : MovementRecord) (x : Nat × CueEntry) (s : State) : State :=
  let e := x.2
  let s1 := if e.oneShot then setCue x.1 { e with state := .spent } s else s
  let crossing : Byte := if crossedForward m (effectiveAddress s e) then 0 else 1
  let s2 := queueNotice 0xC6 (activeTag s)
    ([BitVec.ofNat 8 x.1, crossing] ++ leBytes 2 e.label ++ [BitVec.ofNat 8 e.action.code]) s1
  cueAct x.1 e (activeTag s) s2

/-- R158: the fired entries handled in order, and the gate entries among them with their subjects. -/
def fireAll (m : MovementRecord) : List (Nat × CueEntry) → State → State × List FiredGate
  | [], s => (s, [])
  | x :: rest, s =>
    let done := fireAll m rest (fireEntry m x s)
    (done.1, if x.2.action.gate then ⟨x.1, x.2, activeTag s⟩ :: done.2 else done.2)

/-- R160: one fired gate entry settles the lines no entry before it has decided. -/
def settleEntry (enabled : Bool) (claimed : Byte) (g : FiredGate) (s : State) : State :=
  let decided := g.entry.mask &&& ~~~claimed
  if g.entry.action = .gateClose then s.withCue { s.cue with gates := s.cue.gates &&& ~~~decided }
  else if enabled then s.withCue { s.cue with gates := s.cue.gates ||| decided }
  else if decided = 0 then s
  else queueNotice 0xC8 g.subject ([BitVec.ofNat 8 g.index, decided] ++ leBytes 2 g.entry.label) s

/-- R160: the lines are settled after the last fired entry, gates judged enabled or not at this moment. -/
def resolveGates (enabled : Bool) : List FiredGate → Byte → State → State
  | [], _, s => s
  | g :: rest, claimed, s => resolveGates enabled rest (claimed ||| g.entry.mask) (settleEntry enabled claimed g s)

/-- R157 to R160: the unit's work at a movement record. -/
def cueWork (m : MovementRecord) (s : State) : State :=
  let fired := fireAll m (firedEntries s m) s
  resolveGates (gatesEnabled fired.1) fired.2 0 fired.1

end Sys2Proof.Machine
end

