-- ==== Sys2Proof/Machine/Message.lean ====
section
/-! DEFINITION. The Message Unit's own commands and the pause run (chapter 2); the reassembly of fragments is in
Assembly.lean, the reply-field arbiter in Departure.lean. -/

namespace Sys2Proof.Machine

/-- R25: an IDLE frame extends the pause run, and at 64 the message is broken or the discarding ends. -/
def pauseStep (s : State) : State :=
  if s.msg.assembly = .empty then s
  else if Config.pauseLimit ≤ s.msg.pauseRun + 1 then breakAssembly s
  else s.withMsg { s.msg with pauseRun := s.msg.pauseRun + 1 }

/-- PAUSE_TIMEOUT (R25): the IDLE frame that takes the pause run to 64. -/
def pauseTimeoutDue (s : State) : Bool :=
  s.msg.assembly != .empty && decide (Config.pauseLimit ≤ s.msg.pauseRun + 1)

def execPauseTimeout (s : State) : Host.Outcome State Fault Refusal :=
  .next (whenDue (pauseTimeoutDue s) pauseStep s)

/-- UNKNOWN_COMMAND (R30): answered, and nothing else changes. -/
def unknownCommand (code tag : Byte) (s : State) : State := reply code tag .unknownCommand [] s

/-- A code that is assigned is no unknown command: the event does not occur (log 3). -/
def execUnknownCommand (code tag : Byte) (params : List Byte) (s : State) : Host.Outcome State Fault Refusal :=
  .next (whenDue (!codeAssigned code) (atCompletion code tag params (unknownCommand code tag)) s)

/-- IDENTIFY's reply data (R36). -/
def identifyData : List Byte :=
  leBytes 2 Config.partCode ++
    [BitVec.ofNat 8 Config.revision, 0xFF, BitVec.ofNat 8 Config.motionCapacity, BitVec.ofNat 8 Config.cueCapacity,
      BitVec.ofNat 8 Config.replyCapacity, BitVec.ofNat 8 Config.noticeCapacity, BitVec.ofNat 8 Config.gateLines]

/-- IDENTIFY (R36). -/
def identify (tag : Byte) (params : List Byte) (s : State) : State :=
  if params.length ≠ 0 then reply 0x08 tag .badLength [] s else reply 0x08 tag .ok identifyData s

def execIdentify (tag : Byte) (params : List Byte) (s : State) : Host.Outcome State Fault Refusal :=
  .next (atCompletion 0x08 tag params (identify tag params) s)

/-- READ_MESSAGING's reply data (R37). -/
def readMessagingData (s : State) : List Byte :=
  leBytes 2 s.msg.broken ++ leBytes 2 s.msg.malformed ++ leBytes 2 s.msg.overruns ++ leBytes 2 s.msg.noticesLost ++
    [BitVec.ofNat 8 s.msg.replies.length, BitVec.ofNat 8 s.msg.notices.length]

/-- READ_MESSAGING (R37). -/
def readMessaging (tag : Byte) (params : List Byte) (s : State) : State :=
  if params.length ≠ 1 then reply 0x09 tag .badLength [] s
  else
    let s1 :=
      if clearOption params then
        s.withMsg { s.msg with broken := 0, malformed := 0, overruns := 0, noticesLost := 0 }
      else s
    reply 0x09 tag .ok (readMessagingData s) s1

def execReadMessaging (tag : Byte) (params : List Byte) (s : State) : Host.Outcome State Fault Refusal :=
  .next (atCompletion 0x09 tag params (readMessaging tag params) s)

/-- R38 step 1: the queues are emptied and the assembly is EMPTY. -/
def emptyQueues (s : State) : State :=
  clearAssembly (s.withMsg { s.msg with replies := [], notices := [] })

/-- R38 step 2: each unit takes its restart values (R69, R95, R110, R134, R148, R163, R178; the Ring Port, the Configuration
Store, the Profile Unit and the cue entries keep theirs). -/
def restartUnits (s : State) : State :=
  let s1 := s.withPlanner { Planner.initial with
    transport := if s.config.valid then .braked else .safe, capCommand := s.planner.capCommand }
  let s2 := (s1.withSupply (forgetRadius s.rStart s.supply)).withTakeup (forgetRadius s.rStart s.takeup)
  let s3 := s2.withPosition { clearRuns s.position with track := .absent, trackAge := 0, pending := none }
  ((closeGates s3).withChase ChaseUnit.initial).withProtection ProtectionUnit.initial

/-- R38: the transport states that accept RESTART. -/
def restartAccepted (s : State) : Bool := [Transport.safe, .braked, .stopped].contains s.planner.transport

/-- RESTART (R38). -/
def restart (tag : Byte) (params : List Byte) (s : State) : State :=
  if params.length ≠ 0 then reply 0x0F tag .badLength [] s
  else if restartAccepted s then reply 0x0F tag .ok [] (restartUnits (emptyQueues s))
  else reply 0x0F tag .wrongState [] s

def execRestart (tag : Byte) (params : List Byte) (s : State) : Host.Outcome State Fault Refusal :=
  .next (atCompletion 0x0F tag params (restart tag params) s)

end Sys2Proof.Machine
end

