-- ==== Sys2Proof/Machine/Reels.lean ====
section
/-! DEFINITION. The Reel Channels (chapter 5): arm linearisation, the radius window, the torque command, READ_REEL, and the
events a channel raises. -/

namespace Sys2Proof.Machine

/-! ## Tension and radius (R72 to R77) -/

/-- R6: the arm sample of a reel as delivered. -/
def State.armOf (s : State) : Reel → Nat
  | .supply => s.ring.supArm
  | .takeup => s.ring.takArm

/-- R6: the raw delta of a reel as delivered. -/
def Delivery.reelDelta (d : Delivery) : Reel → Int
  | .supply => d.supDelta
  | .takeup => d.takDelta

/-- R72: the linearised tension of an arm sample. -/
def linearise (s : State) (reel : Reel) (raw : Nat) : Nat :=
  let i := raw / 256
  let f := raw % 256
  s.curve reel i + ((s.curve reel (i + 1) - s.curve reel i) * f + 128) / 256

/-- R74: the window's signs agree. -/
def windowAgrees (reel : Reel) (ar ai : Int) : Bool :=
  match reel with
  | .takeup => decide (0 < ar * ai)
  | .supply => decide (ar * ai < 0)

/-- R75: the raw radius of an agreeing window. -/
def rawRadius (s : State) (reel : Reel) (ar ai : Int) : Int := roundDiv (|ai| * s.rgain reel) (|ar| * 1024)

/-- R75: the estimate moved a quarter of the way toward the clamped raw radius. -/
def nextRadius (s : State) (reel : Reel) (r : Nat) (ar ai : Int) : Nat :=
  let raw := clampTo s.rHub s.rMax (rawRadius s reel ar ai)
  ((r : Int) + roundDiv (raw - r) 4).toNat

/-- R75: an agreeing window updates the radius. -/
def agreeWindow (s : State) (reel : Reel) (c : ReelChannel) : ReelChannel :=
  emptyWindow { c with radius := nextRadius s reel c.radius c.reelAcc c.idlerAcc, known := true, mismatch := 0 }

/-- R76: a disagreeing window counts a mismatch. -/
def disagreeWindow (c : ReelChannel) : ReelChannel := emptyWindow { c with mismatch := inc16 c.mismatch }

/-- R76: a disagreeing window is judged, and SENSE_MISMATCH is raised where the count reaches 3. -/
def judgeDisagreement (reel : Reel) (s : State) : State :=
  let c := s.channel reel
  let s1 := s.withChannel reel (disagreeWindow c)
  if reaches c.mismatch (inc16 c.mismatch) 3 then
    raise .senseMismatch (some reel) s.ring.lastSeq (inc16 c.mismatch) s1
  else s1

/-- R77: the window is discarded. -/
def discardWindow (reel : Reel) (s : State) : State := s.withChannel reel (emptyWindow (s.channel reel))

/-- R74, R77: the window with this frame's deltas added is completed, discarded as stale, or kept. -/
def testWindow (reel : Reel) (s : State) : State :=
  let c := s.channel reel
  if (s.rwin : Int) ≤ |c.reelAcc| then
    if windowAgrees reel c.reelAcc c.idlerAcc then s.withChannel reel (agreeWindow s reel c)
    else judgeDisagreement reel s
  else if s.rstale ≤ c.age then discardWindow reel s
  else s

/-- R71, R73: the frame's mirrored deltas are added to the window. -/
def addDeltas (reelDelta idlerDelta : Int) (c : ReelChannel) : ReelChannel :=
  { c with reelAcc := c.reelAcc + reelDelta, idlerAcc := c.idlerAcc + idlerDelta, age := c.age + 1 }

/-- Steps 1 to 3 of R70. -/
def windowWork (reel : Reel) (d : Delivery) (s : State) : State :=
  let c := { s.channel reel with tMeas := linearise s reel (s.armOf reel) }
  testWindow reel (s.withChannel reel
    (addDeltas (mirror (s.mirrorReel reel) (d.reelDelta reel)) (mirror s.mirrorIdler d.idlerDelta) c))

/-! ## The torque command (R79 to R87) -/

/-- R80: the setpoint slewed toward the target. -/
def slewSetpoint (slew target tSet : Nat) : Nat :=
  if tSet < target then min target (tSet + slew) else if target < tSet then max target (tSet - slew) else tSet

/-- R83: the speed term S of the published reference. -/
def speedTerm (s : State) : Int :=
  if s.planner.refClass = .wind ∨ s.planner.refClass = .locate then
    roundDiv (s.kv * (s.planner.vRef - s.position.vMeas)) 256
  else 0

/-- R84: the candidate integral. -/
def candidateIntegral (s : State) (c : ReelChannel) (e : Int) : Int := clampSym s.iLim (c.integrator + s.ki * e)

/-- R81 to R85: the raw sum of a channel whose target and setpoint are this frame's. -/
def rawTorque (s : State) (reel : Reel) (c : ReelChannel) : Int :=
  let e : Int := (c.tSet : Int) - c.tMeas
  let static := roundDiv ((c.tSet : Int) * c.radius) 100
  let accel := roundDiv (s.planner.aRef * accelGain s c.radius) 16
  let speed := if s.planner.leading = reel then speedTerm s else 0
  let correction := roundDiv (s.kp * e + candidateIntegral s c e) 1024
  match reel with
  | .takeup => static + accel + speed + correction
  | .supply => static - accel - speed + correction

/-- R86: the integrator after the limit. -/
def settleIntegral (lim raw e old candidate : Int) : Int :=
  if (lim < raw ∧ 0 < e) ∨ (raw < -lim ∧ e < 0) then old else candidate

/-- R85: the sum lies outside the limit. -/
def outsideLimit (lim : Nat) (raw : Int) : Bool := decide ((lim : Int) < raw ∨ raw < -(lim : Int))

/-- R87: the saturated flag and run of one computation. -/
def recordSaturation (lim : Nat) (raw : Int) (c : ReelChannel) : ReelChannel :=
  if outsideLimit lim raw then { c with saturated := true, satRun := inc16 c.satRun }
  else { c with saturated := false, satRun := 0 }

/-- R79, R80: target and setpoint of this frame. -/
def setpointWork (s : State) (c : ReelChannel) : ReelChannel :=
  let target := tensionTarget s s.planner.refClass c.radius
  { c with target := target, tSet := slewSetpoint s.tensionSlew target c.tSet }

/-- R85, R86: the command and the integrator from the raw sum. -/
def commandWork (s : State) (reel : Reel) (raw : Int) (c : ReelChannel) : ReelChannel :=
  let e : Int := (c.tSet : Int) - c.tMeas
  { c with
    torque := clampSym (s.torqueLim reel) raw,
    integrator := settleIntegral (s.torqueLim reel) raw e c.integrator (candidateIntegral s c e) }

/-- R87: the saturation of a computation is recorded, and TORQUE_SATURATED raised where the run reaches SAT_FRAMES. -/
def saturationStep (reel : Reel) (raw : Int) (s : State) : State :=
  let c := s.channel reel
  let c1 := recordSaturation (s.torqueLim reel) raw c
  let s1 := s.withChannel reel c1
  if reaches c.satRun c1.satRun s.satFrames then raise .torqueSaturated (some reel) s.ring.lastSeq raw s1 else s1

/-- Step 4 of R70. -/
def torqueWork (reel : Reel) (s : State) : State :=
  if s.planner.transport.resting then s
  else
    let c := setpointWork s (s.channel reel)
    let raw := rawTorque s reel c
    saturationStep reel raw (s.withChannel reel (commandWork s reel raw c))

/-! ## Events and READ_REEL -/

/-- RADIUS_WINDOW_STALE (R77): the frame that takes the age of an uncompleted window to RSTALE. -/
def windowStaleDue (reel : Reel) (s : State) : Bool :=
  s.config.valid && decide (|(s.channel reel).reelAcc| < (s.rwin : Int)) &&
    decide (s.rstale ≤ (s.channel reel).age + 1)

def execRadiusWindowStale (reel : Reel) (s : State) : Host.Outcome State Fault Refusal :=
  .next (whenDue (windowStaleDue reel s) (discardWindow reel) s)

/-- SENSE_MISMATCH (R76): the disagreeing window that takes the count to 3. -/
def senseMismatchDue (reel : Reel) (s : State) : Bool :=
  s.config.valid && reaches (s.channel reel).mismatch (inc16 (s.channel reel).mismatch) 3

def execSenseMismatch (reel : Reel) (s : State) : Host.Outcome State Fault Refusal :=
  .next (whenDue (senseMismatchDue reel s) (judgeDisagreement reel) s)

/-- TORQUE_SATURATED (R87): the limited computation that takes the run to SAT_FRAMES. -/
def torqueSaturatedDue (reel : Reel) (raw : Int) (s : State) : Bool :=
  s.config.valid && !s.planner.transport.resting && outsideLimit (s.torqueLim reel) raw &&
    reaches (s.channel reel).satRun (inc16 (s.channel reel).satRun) s.satFrames

def execTorqueSaturated (reel : Reel) (raw : Int) (s : State) : Host.Outcome State Fault Refusal :=
  .next (whenDue (torqueSaturatedDue reel raw s) (saturationStep reel raw) s)

/-- READ_REEL's reply data (R93). -/
def readReelData (reel : Reel) (c : ReelChannel) : List Byte :=
  [reelCode reel] ++ leBytes 2 c.radius ++ [BitVec.ofNat 8 (bit c.known)] ++ leBytes 2 c.tMeas ++ leBytes 2 c.target ++
    leBytes 2 c.tSet ++ leIntBytes 4 c.integrator ++ leIntBytes 2 c.torque ++ [BitVec.ofNat 8 (bit c.saturated)] ++
    leBytes 2 c.satRun ++ leBytes 2 c.mismatch ++ leIntBytes 4 c.reelAcc ++ leIntBytes 4 c.idlerAcc ++ leBytes 2 c.age

/-- READ_REEL (R93). -/
def readReel (tag : Byte) (params : List Byte) (s : State) : State :=
  if params.length ≠ 1 then reply 0x20 tag .badLength [] s
  else if paramByte params 0 = 0 then reply 0x20 tag .ok (readReelData .supply s.supply) s
  else if paramByte params 0 = 1 then reply 0x20 tag .ok (readReelData .takeup s.takeup) s
  else reply 0x20 tag .badValue [] s

def execReadReel (tag : Byte) (params : List Byte) (s : State) : Host.Outcome State Fault Refusal :=
  .next (atCompletion 0x20 tag params (readReel tag params) s)

end Sys2Proof.Machine
end

