-- ==== Sys2Proof/Machine/Protection.lean ====
section
/-! DEFINITION. The Protection Unit (chapter 11): the frame tests, the settling of ESTOP, its commands. The occurrence of a
condition and the orders are in Requests.lean. -/

namespace Sys2Proof.Machine

/-- An occurrence found by a frame test: the SEQ is the frame's own (R182). -/
def raiseHere (c : Condition) (reel : Option Reel) (captured : Int) (s : State) : State :=
  raise c reel s.ring.lastSeq captured s

/-! ## Edges and runaway (R179) -/

/-- R179: TAPE_OUT. -/
def tapeOutTest (s : State) : State :=
  if s.ring.tapePresent then s.withProtection { s.protection with tapeOut := false }
  else if s.protection.tapeOut then s
  else raiseHere .tapeOut none 0 (s.withProtection { s.protection with tapeOut := true })

/-- R179: LEADER_SUP and the forward inhibit. That it is a condition of neither reel (FFh, R182) is the model's choice (log 42). -/
def leaderSupTest (s : State) : State :=
  if s.ring.supLeader = false then s.withProtection { s.protection with leaderSup := false, inhibitForward := false }
  else if s.protection.leaderSup then s
  else
    raiseHere .leaderSup none 0 (s.withProtection { s.protection with leaderSup := true, inhibitForward := true })

/-- R179: LEADER_TAK and the reverse inhibit, of neither reel as LEADER_SUP (log 42). -/
def leaderTakTest (s : State) : State :=
  if s.ring.takLeader = false then s.withProtection { s.protection with leaderTak := false, inhibitReverse := false }
  else if s.protection.leaderTak then s
  else
    raiseHere .leaderTak none 0 (s.withProtection { s.protection with leaderTak := true, inhibitReverse := true })

/-- R179: RUNAWAY of one reel. -/
def runawayTest (d : Delivery) (reel : Reel) (s : State) : State :=
  if (s.runawayCounts * d.k : Int) < |d.reelDelta reel| then raiseHere .runaway (some reel) (d.reelDelta reel) s else s

/-! ## Tension tests (R180) -/

/-- The order the two reels are tested in at one arrival (R180). -/
def reelOrder (takeupFirst : Bool) : List Reel := if takeupFirst then [.takeup, .supply] else [.supply, .takeup]

def State.overRun (s : State) : Reel → Nat
  | .supply => s.protection.overSup
  | .takeup => s.protection.overTak

def State.slackRun (s : State) : Reel → Nat
  | .supply => s.protection.slackSup
  | .takeup => s.protection.slackTak

def setOverRun (reel : Reel) (n : Nat) (s : State) : State :=
  match reel with
  | .supply => s.withProtection { s.protection with overSup := n }
  | .takeup => s.withProtection { s.protection with overTak := n }

def setSlackRun (reel : Reel) (n : Nat) (s : State) : State :=
  match reel with
  | .supply => s.withProtection { s.protection with slackSup := n }
  | .takeup => s.withProtection { s.protection with slackTak := n }

/-- R180: the over run of a reel after this frame. -/
def nextOverRun (s : State) (reel : Reel) : Nat :=
  if s.overLevel < (s.channel reel).tMeas then inc16 (s.overRun reel) else 0

/-- R180: the slack run of a reel after this frame. -/
def nextSlackRun (s : State) (reel : Reel) : Nat :=
  if (s.channel reel).tMeas < s.slackLevel then inc16 (s.slackRun reel) else 0

/-- The reel's over run reaches OVER_FRAMES at this frame. -/
def overReached (s : State) (reel : Reel) : Bool := reaches (s.overRun reel) (nextOverRun s reel) s.overFrames

/-- The reel's slack run reaches SLACK_FRAMES at this frame. -/
def slackReached (s : State) (reel : Reel) : Bool := reaches (s.slackRun reel) (nextSlackRun s reel) s.slackFrames

/-- R180: a condition occurs for each reel of a list, in order, with its T_meas. -/
def raiseTension (c : Condition) (reels : List Reel) (s : State) : State :=
  reels.foldl (fun t reel => raiseHere c (some reel) (t.channel reel).tMeas t) s

/-- R180: OVERTENSION of both reels. -/
def overtensionTest (takeupFirst : Bool) (s : State) : State :=
  raiseTension .overtension ((reelOrder takeupFirst).filter (overReached s))
    (setOverRun .takeup (nextOverRun s .takeup) (setOverRun .supply (nextOverRun s .supply) s))

/-- R180: the states in which SLACK is tested. -/
def slackTested (s : State) : Bool := !s.planner.transport.resting

/-- R180: SLACK of both reels, or one grace frame spent. -/
def slackTest (takeupFirst : Bool) (s : State) : State :=
  if slackTested s = false then s
  else if 0 < s.protection.grace then
    s.withProtection { s.protection with grace := s.protection.grace - 1, slackSup := 0, slackTak := 0 }
  else
    raiseTension .slack ((reelOrder takeupFirst).filter (slackReached s))
      (setSlackRun .takeup (nextSlackRun s .takeup) (setSlackRun .supply (nextSlackRun s .supply) s))

/-- R179, R180: the frame tests, in their order (log 24). -/
def protectionWork (takeupFirst : Bool) (d : Delivery) (s : State) : State :=
  let s1 := leaderTakTest (leaderSupTest (tapeOutTest s))
  let s2 := (reelOrder takeupFirst).foldl (fun t reel => runawayTest d reel t) s1
  slackTest takeupFirst (overtensionTest takeupFirst s2)

/-! ## The settling of ESTOP (R184) -/

/-- R184: the reels have settled: ESTOP passes to BRAKED. -/
def settleEstop (s : State) : State := enterRest .braked s

/-- R184: the settle run of a good frame. The frame at whose arrival ESTOP is entered is not counted, whichever of the two is
taken first: R181 has the transport end that arrival in ESTOP (log 43). A run that ends passes to BRAKED also where an ESTOP order
was taken in ESTOP at this arrival (log 43); a RELEASE that the frame completes then finds BRAKED (log 44). -/
def settleStep (d : Delivery) (s : State) : State :=
  if d.foundEstop = false ∨ s.planner.transport ≠ .estop then s
  else
    let run := if d.supDelta = 0 ∧ d.takDelta = 0 then inc16 s.protection.settleRun else 0
    let s1 := s.withProtection { s.protection with settleRun := run }
    if s.estopSettle ≤ run then settleEstop s1 else s1

/-! ## Events (log 3) -/

/-- SLACK (R180): the frame that takes a reel's slack run to SLACK_FRAMES. -/
def slackDue (reel : Reel) (s : State) : Bool :=
  s.config.valid && slackTested s && decide (s.protection.grace = 0) && slackReached s reel

def execSlack (reel : Reel) (s : State) : Host.Outcome State Fault Refusal :=
  .next (whenDue (slackDue reel s)
    (fun s => raiseHere .slack (some reel) (s.channel reel).tMeas (setSlackRun reel (nextSlackRun s reel) s)) s)

/-- OVERTENSION (R180): the frame that takes a reel's over run to OVER_FRAMES. -/
def overtensionDue (reel : Reel) (s : State) : Bool := s.config.valid && overReached s reel

def execOvertension (reel : Reel) (s : State) : Host.Outcome State Fault Refusal :=
  .next (whenDue (overtensionDue reel s)
    (fun s => raiseHere .overtension (some reel) (s.channel reel).tMeas (setOverRun reel (nextOverRun s reel) s)) s)

/-- ESTOP_SETTLED (R184): the still frame that takes the settle run to ESTOP_SETTLE. -/
def estopSettledDue (s : State) : Bool :=
  s.config.valid && s.planner.transport == .estop && decide (s.estopSettle ≤ inc16 s.protection.settleRun)

def execEstopSettled (s : State) : Host.Outcome State Fault Refusal :=
  .next (whenDue (estopSettledDue s) settleEstop s)

/-! ## Commands (R185 to R187) -/

/-- ESTOP (R185). -/
def estop (tag : Byte) (params : List Byte) (s : State) : State :=
  if params.length ≠ 0 then reply 0x3B tag .badLength [] s
  else if s.planner.transport = .safe then reply 0x3B tag .wrongState [] s
  else reply 0x3B tag .ok [s.planner.transport.code] (orderEstop .fault s)

def execEstop (tag : Byte) (params : List Byte) (s : State) : Host.Outcome State Fault Refusal :=
  .next (atCompletion 0x3B tag params (estop tag params) s)

/-- R186: the transport is released: slack runs zero, the grace set, STOPPED entered. -/
def releaseTransport (s : State) : State :=
  enterStopped (s.withProtection { s.protection with slackSup := 0, slackTak := 0, grace := s.slackGrace })

/-- RELEASE (R186). -/
def release (tag : Byte) (params : List Byte) (s : State) : State :=
  if params.length ≠ 0 then reply 0x3C tag .badLength [] s
  else if s.planner.transport ≠ .braked then reply 0x3C tag .wrongState [] s
  else if s.ring.tapePresent = false then reply 0x3C tag .tapeOut [] s
  else reply 0x3C tag .ok [] (releaseTransport s)

def execRelease (tag : Byte) (params : List Byte) (s : State) : Host.Outcome State Fault Refusal :=
  .next (atCompletion 0x3C tag params (release tag params) s)

/-- R187: the thirteen bytes of the first-fault record. Of an empty record the manual states the first three; the SEQ, P,
transport state and captured value it then carries are free values (log 35). -/
def faultRecordBytes (s : State) : List Byte × State :=
  match s.protection.record with
  | some r =>
    ([1, r.condition.code, reelByte r.reel, r.seq] ++ word32Bytes r.p ++ [r.transport.code] ++ leIntBytes 4 r.captured, s)
  | none =>
    let seq := drawNat s
    let p := drawNat seq.2
    let transport := drawNat p.2
    let captured := drawNat transport.2
    ([0, 0, 0] ++ leBytes 1 seq.1 ++ leBytes 4 p.1 ++ leBytes 1 transport.1 ++ leBytes 4 captured.1, captured.2)

/-- R187: the items of READ_FAULTS's reply after the record. -/
def faultCountBytes (s : State) : List Byte :=
  s.protection.counters.toList.flatMap (leBytes 2) ++
    [BitVec.ofNat 8 (bit s.protection.inhibitForward + 2 * bit s.protection.inhibitReverse)] ++
    leBytes 2 s.protection.grace ++ leBytes 2 s.protection.settleRun

/-- READ_FAULTS's reply data (R187). -/
def readFaultsData (s : State) : List Byte :=
  word16Bytes s.protection.flags ++ (faultRecordBytes s).1 ++ faultCountBytes s

/-- R187: the flags and the record are cleared, and with the clear option the counters. -/
def clearFaults (clear : Bool) (s : State) : State :=
  s.withProtection { s.protection with
    flags := 0, record := none, counters := if clear then Vector.replicate 10 0 else s.protection.counters }

/-- READ_FAULTS (R187). -/
def readFaults (tag : Byte) (params : List Byte) (s : State) : State :=
  if params.length ≠ 1 then reply 0x3A tag .badLength [] s
  else reply 0x3A tag .ok (readFaultsData s) (clearFaults (clearOption params) (faultRecordBytes s).2)

def execReadFaults (tag : Byte) (params : List Byte) (s : State) : Host.Outcome State Fault Refusal :=
  .next (atCompletion 0x3A tag params (readFaults tag params) s)

end Sys2Proof.Machine
end

