-- ==== Sys2Proof/Machine/Assembly.lean ====
section
/-! DEFINITION. The reassembly of command messages from the command field (chapter 2): fragments, the framing check, streamed
entries, and the command a complete message stands for. -/

namespace Sys2Proof.Machine

/-! ## Dispatch (R29) -/

/-- R152: a CUE_WRITE_MANY completes; one of LEN 0 or 1 was never opened (R151). -/
def completeCueMany (tag : Byte) (params : List Byte) (s : State) : State :=
  if params.length ≤ 1 then reply 0x31 tag .badLength [] s else finishCueMany tag (paramByte params 0) s

/-- R29, section 1.6: the command of a CODE; an unassigned CODE is refused (R30). -/
def runCommand (code tag : Byte) (params : List Byte) : State → State :=
  match code.toNat with
  | 0x01 => readRing tag params
  | 0x08 => identify tag params
  | 0x09 => readMessaging tag params
  | 0x0F => restart tag params
  | 0x10 => configWrite tag params
  | 0x11 => configCommit tag params
  | 0x12 => configOpen tag params
  | 0x13 => configClear tag params
  | 0x14 => configRead tag params
  | 0x18 => profileWindow tag params
  | 0x19 => finishProfileData tag
  | 0x1A => profileSelect tag params
  | 0x1B => profileClear tag params
  | 0x1C => profileRead tag params
  | 0x20 => readReel tag params
  | 0x21 => setPosition tag params
  | 0x22 => readPosition tag params
  | 0x28 => queueMotion tag params
  | 0x29 => stopNow tag params
  | 0x2A => flush tag params
  | 0x2B => setVarispeed tag params
  | 0x2C => resume tag params
  | 0x2D => readTransport tag params
  | 0x30 => cueWrite tag params
  | 0x31 => completeCueMany tag params
  | 0x32 => cueArm tag params
  | 0x33 => cueDisarm tag params
  | 0x34 => cueClear tag params
  | 0x35 => cueRead tag params
  | 0x38 => setOffset tag params
  | 0x39 => readSync tag params
  | 0x3A => readFaults tag params
  | 0x3B => estop tag params
  | 0x3C => release tag params
  | _ => unknownCommand code tag

/-! ## The message in progress (R20) -/

/-- CODE, TAG and LEN of the message in the buffer, and its byte 3. -/
def State.headCode (s : State) : Byte := s.msg.buffer.getD 0 0
def State.headTag (s : State) : Byte := s.msg.buffer.getD 1 0
def State.headLen (s : State) : Nat := (s.msg.buffer.getD 2 0).toNat
def State.headFirst (s : State) : Byte := s.msg.buffer.getD 3 0

/-- The parameter bytes of the message in the buffer; the padding beyond 2 + LEN is not examined (R21). -/
def bufferParams (s : State) : List Byte := (s.msg.buffer.drop 3).take s.headLen

/-- R21: a MORE or LAST in EMPTY, or a mark above 4, is malformed. -/
def countMalformed (s : State) : State := s.withMsg { s.msg with malformed := inc16 s.msg.malformed }

/-- R21: the fragment starts a message. -/
def startMessage (data : Quad) (s : State) : State :=
  s.withMsg { s.msg with assembly := .assembling, buffer := quadBytes data, fragments := 1, pauseRun := 0, handed := 0 }

/-- R21: the fragment is appended to the message. -/
def appendFragment (data : Quad) (s : State) : State :=
  s.withMsg { s.msg with
    buffer := s.msg.buffer ++ quadBytes data, fragments := s.msg.fragments + 1, pauseRun := 0 }

/-- R22, R28: a refused message: the buffer holds no bytes, and the assembly discards the rest or is EMPTY. -/
def dropMessage (discard : Bool) (s : State) : State :=
  let s1 := clearAssembly s
  if discard then s1.withMsg { s1.msg with assembly := .discarding } else s1

/-- R22: the reply data of a framing failure: the count of entries written where any was handed over (log 12). -/
def failureData (s : State) : List Byte := if s.msg.handed = 0 then [] else [writtenCount s]

/-- R22: the framing check fails. -/
def framingFailure (discard : Bool) (s : State) : State :=
  reply s.headCode s.headTag .badLength (failureData s) (dropMessage discard s)

/-- R28: a streamed opening is refused. -/
def openingRefused (discard : Bool) (r : Result) (s : State) : State :=
  reply s.headCode s.headTag r [] (dropMessage discard s)

/-! ## Streamed messages (R28) -/

/-- The first byte and the length of a streamed command's entries. -/
def entryLayout (code : Byte) : Option (Nat × Nat) :=
  if code = 0x19 then some (3, 9) else if code = 0x31 then some (5, 8) else none

/-- R28, R55: the opening at the fragment that carries the header. -/
def headerOpening (s : State) : Option Result :=
  if s.headCode = 0x19 then profileOpening s.headLen s else none

/-- R28, R151: the opening at the fragment that carries byte 4. -/
def leadingOpening (s : State) : Option Result :=
  if s.headCode = 0x31 ∧ s.msg.fragments = 2 then cueOpening s.headLen s.headFirst.toNat else none

/-- R55: what an accepted opening at the header starts. -/
def startHeader (s : State) : State := if s.headCode = 0x19 then startProfileData s else s

/-- R151: what an accepted opening at byte 4 starts. -/
def startLeading (s : State) : State :=
  if s.headCode = 0x31 ∧ s.msg.fragments = 2 then startCueMany s.headFirst.toNat s else s

/-- R28: one entry is handed to its owner. -/
def handEntry (bs : List Byte) (s : State) : State :=
  let s1 := s.withMsg { s.msg with handed := s.msg.handed + 1 }
  if s.headCode = 0x19 then profileEntry bs s1
  else cueManyEntry ((s.msg.buffer.getD 4 0).getLsbD 0) bs s1

/-- R28: the entries whose bytes are complete and not yet handed over, in message order. -/
def newEntries (s : State) : List (List Byte) :=
  match entryLayout s.headCode with
  | none => []
  | some (base, size) =>
    (entriesOf size ((s.msg.buffer.take (3 + s.headLen)).drop base)).drop s.msg.handed

/-- R28: every newly complete entry is handed over. -/
def handEntries (s : State) : State := (newEntries s).foldl (fun t e => handEntry e t) s

/-! ## Fragments by mark (R21 to R25) -/

/-- R22, R28: a message opens with a FIRST: framing, the header's opening, then ASSEMBLING. -/
def takeFirst (data : Quad) (s : State) : State :=
  let s1 := startMessage data (breakAssembly s)
  if Config.maxLen < s1.headLen ∨ 3 + s1.headLen ≤ 4 then framingFailure true s1
  else
    match headerOpening s1 with
    | some r => openingRefused true r s1
    | none => startHeader s1

/-- R21, R22: a whole message in one fragment. -/
def takeOnly (data : Quad) (s : State) : State :=
  let s1 := startMessage data (breakAssembly s)
  if 1 < s1.headLen then framingFailure false s1
  else
    match headerOpening s1 with
    | some r => openingRefused false r s1
    | none => atCompletion s1.headCode s1.headTag (bufferParams s1) (runCommand s1.headCode s1.headTag (bufferParams s1)) s1

/-- R21, R22, R28: a MORE of the message in ASSEMBLING. -/
def appendMore (data : Quad) (s : State) : State :=
  let s1 := appendFragment data s
  if 3 + s1.headLen ≤ 4 * s1.msg.fragments then framingFailure true s1
  else
    match leadingOpening s1 with
    | some r => openingRefused true r s1
    | none => handEntries (startLeading s1)

/-- R21, R22, R28, R29: a LAST of the message in ASSEMBLING. -/
def appendLast (data : Quad) (s : State) : State :=
  let s1 := appendFragment data s
  if s1.msg.fragments < fragmentsNeeded s1.headLen then framingFailure false s1
  else
    match leadingOpening s1 with
    | some r => openingRefused false r s1
    | none =>
      let s2 := handEntries (startLeading s1)
      atCompletion s2.headCode s2.headTag (bufferParams s2) (runCommand s2.headCode s2.headTag (bufferParams s2)) s2

/-- R21, R23: a MORE, by assembly state; one passed over in DISCARDING ends the run of IDLE frames (log 13). -/
def takeMore (data : Quad) (s : State) : State :=
  match s.msg.assembly with
  | .empty => countMalformed s
  | .assembling => appendMore data s
  | .discarding => s.withMsg { s.msg with pauseRun := 0 }

/-- R21, R23: a LAST, by assembly state. -/
def takeLast (data : Quad) (s : State) : State :=
  match s.msg.assembly with
  | .empty => countMalformed s
  | .assembling => appendLast data s
  | .discarding => clearAssembly s

/-- R21, R24, R25: the command field of a good frame is taken. -/
def takeFragment (mark : Byte) (data : Quad) (s : State) : State :=
  match mark.toNat with
  | 0 => pauseStep s
  | 1 => takeFirst data s
  | 2 => takeMore data s
  | 3 => takeLast data s
  | 4 => takeOnly data s
  | _ => breakAssembly (countMalformed s)

end Sys2Proof.Machine
end

