-- ==== Sys2Proof/Machine/Departure.lean ====
section
/-! DEFINITION. The departure of a servo frame (section 1.3): the reply-field arbiter, the drive, gate and status fields, and
the forwarded frame. -/

namespace Sys2Proof.Machine

/-! ## The reply field (R33) -/

/-- What the arbiter supplies for one departure: RPL_MARK and RPL_DATA. -/
structure ReplyField where
  mark : Byte
  data : Quad
deriving DecidableEq, Repr

/-- R33: IDLE with zero data. -/
def ReplyField.idle : ReplyField := { mark := 0, data := { b0 := 0, b1 := 0, b2 := 0, b3 := 0 } }

/-- Fragment i of a message as the reply field carries it. -/
def ReplyField.of (m : List Byte) (i : Nat) : ReplyField := { mark := fragmentMark m i, data := fragment m i }

/-- R33: the message is sent up to and with fragment i; after its last fragment the arbiter holds none. -/
def holdSending (m : List Byte) (i : Nat) (s : State) : State :=
  s.withMsg { s.msg with sending := if i + 1 < ceilDiv m.length 4 then some { message := m, sent := i + 1 } else none }

/-- R33: the arbiter, at one departure. -/
def arbiter (s : State) : ReplyField × State :=
  match s.msg.sending, s.msg.replies, s.msg.notices with
  | some x, _, _ => (ReplyField.of x.message x.sent, holdSending x.message x.sent s)
  | none, m :: rest, _ => (ReplyField.of m 0, holdSending m 0 (s.withMsg { s.msg with replies := rest }))
  | none, [], m :: rest => (ReplyField.of m 0, holdSending m 0 (s.withMsg { s.msg with notices := rest }))
  | none, [], [] => (ReplyField.idle, s)

/-! ## The part's fields (R12 to R14, R111) -/

/-- R12, R88: a channel's command with its drive polarity applied. -/
def torqueField (s : State) (reel : Reel) : Word16 :=
  BitVec.ofInt 16 (mirror (s.torqueSense reel) (s.channel reel).torque)

/-- R111: the capstan command of a departure. -/
def capstanCommand (s : State) : Nat := if s.planner.pinch = .engaged then s.planner.vRef.natAbs else 0

/-- R111: PINCH is set in every pinch state but RELEASED. -/
def Pinch.flag : Pinch → Bool
  | .released => false
  | _ => true

/-- R111: DRIVE_FLAGS; CAP_REVERSE is written clear. -/
def driveFlags (s : State) : Byte :=
  let brakes := bit s.planner.transport.resting
  BitVec.ofNat 8 (2 * bit s.planner.pinch.flag + 4 * brakes + 8 * brakes)

/-- R14, R34: STATUS0. -/
def status0 (s : State) (upstreamDamaged : Bool) : Byte :=
  BitVec.ofNat 8 (s.planner.transport.code.toNat + 16 * bit s.planner.hold + 32 * bit (!s.msg.notices.isEmpty) +
    64 * bit (s.protection.flags != 0) + 128 * bit upstreamDamaged)

/-- R14, R34: STATUS1. -/
def status1 (s : State) : Word16 :=
  BitVec.ofNat 16 (s.chase.state.code.toNat + 16 * s.position.track.code.toNat + 64 * bit s.config.valid +
    128 * bit s.msg.overrunLatch + 256 * s.profile.active.val + 1024 * bit (decide (0 < s.msg.noticesLost)))

/-! ## The departing frame (R11, R15) -/

/-- R11: the frame with the part's fields written, bytes 44 and 45 zero; its check is not yet made. -/
def writeFields (f : Frame) (r : ReplyField) (upstreamDamaged : Bool) (s : State) : Frame :=
  { f with
    supTorque := torqueField s .supply, takTorque := torqueField s .takeup,
    capSpeed := BitVec.ofNat 16 s.planner.capCommand, driveFlags := driveFlags s, gates := s.cue.gates, rplMark := r.mark,
    rplData := r.data, status0 := status0 s upstreamDamaged, status1 := status1 s, bytes44 := 0 }

/-- R15: the frame with its check recomputed. -/
def sealFrame (f : Frame) : Frame := { f with crc := crc (frameBody f) }

/-- R128, R111: a good departure while VALID publishes the reference, and every departure writes the capstan command. -/
def departReference (good : Bool) (s : State) : State :=
  let s1 := if good && s.config.valid then publish s else s
  s1.withPlanner { s1.planner with capCommand := capstanCommand s1 }

/-- Section 1.3: the departure of a servo frame, which arrived good or not (R7). -/
def depart (f : Frame) (good : Bool) (s : State) : State :=
  let sent := arbiter (departReference good s)
  let s1 := sent.2
  s1.withRing { s1.ring with out := frameBytes (sealFrame (writeFields f sent.1 (!good) s1)) }

end Sys2Proof.Machine
end

