-- ==== Sys2Proof/Machine/Arrival.lean ====
section
/-! DEFINITION. The arrival of a frame as a whole (R1, R2, R6, R10): a foreign frame is forwarded; a servo frame is sorted, a
good one worked on by every unit in the order of its schedule, and departs. -/

namespace Sys2Proof.Machine

/-! ## The work a good frame causes -/

/-- One arrival's progress: the state, the movement record once it is published, and whether the active request is a DWELL that
became active at a HALT cue, after that publication (R124). -/
structure Progress where
  state : State
  movement : Option MovementRecord
  lateDwell : Bool
deriving DecidableEq, Repr

/-- R124, R112: a HALT cue that ends a DWELL takes the head; a DWELL taken so is late for the record the cue fired on. It stays so
while it is the active request. -/
def noteDwell (t : Task) (before : State) (p : Progress) : Progress :=
  let taken := t == .cue && decide (p.state.planner.queue.length < before.planner.queue.length)
  { p with lateDwell := dwellActive p.state && (p.lateDwell || taken) }

/-- The work of a unit on the published record; none is done where none was published. -/
def onRecord (work : MovementRecord → State → State) (p : Progress) : State :=
  match p.movement with
  | some m => work m p.state
  | none => p.state

/-- The work of a task that uses the parameters. -/
def unitTask (sc : Schedule) (d : Delivery) (p : Progress) : Task → Progress
  | .command => p
  | .supplyWindow => { p with state := windowWork .supply d p.state }
  | .takeupWindow => { p with state := windowWork .takeup d p.state }
  | .position =>
    let done := positionWork d p.state
    { p with state := done.1, movement := some done.2 }
  | .planner => { p with state := onRecord (plannerWork p.lateDwell) p }
  | .cue => { p with state := onRecord cueWork p }
  | .chase => { p with state := onRecord chaseWork p }
  | .protection => { p with state := protectionWork sc.takeupFirst d p.state }
  | .settle => { p with state := settleStep d p.state }
  | .supplyTorque => { p with state := torqueWork .supply p.state }
  | .takeupTorque => { p with state := torqueWork .takeup p.state }

/-- The work of one task. The Message Unit always takes the command field; every other task is done while the configuration
was VALID at the arrival and still is (R40, R41). -/
def taskWork (f : Frame) (sc : Schedule) (d : Delivery) (p : Progress) (t : Task) : Progress :=
  if t = .command then { p with state := takeFragment f.cmdMark f.cmdData p.state }
  else if d.valid && p.state.config.valid then unitTask sc d p t
  else p

/-- One task of an arrival. -/
def runTask (f : Frame) (sc : Schedule) (d : Delivery) (p : Progress) (t : Task) : Progress :=
  noteDwell t p.state (taskWork f sc d p t)

/-- The tasks that act on the movement record (R106). -/
def readsRecord : Task → Bool
  | .planner | .cue | .chase => true
  | _ => false

/-- R41: the command of this frame opens the configuration after the frame's record was published. -/
def opensAfterRecord (f : Frame) (p : Progress) : Bool :=
  p.movement.isSome && p.state.config.valid && !(takeFragment f.cmdMark f.cmdData p.state).config.valid

/-- R41: a record published before an open is acted on, so its readers go before the open (log 27). -/
def readersFirst (rest : List Task) : List Task :=
  rest.filter readsRecord ++ .command :: rest.filter fun t => !readsRecord t

/-- R93: the reel whose state the frame's command field asks for; an accepted READ_REEL has LEN 1 and travels as ONLY. -/
def reelAsked (f : Frame) : Option Reel :=
  if f.cmdMark = 4 ∧ f.cmdData.b0 = 0x20 ∧ f.cmdData.b2 = 1 then
    if f.cmdData.b3 = 0 then some .supply else if f.cmdData.b3 = 1 then some .takeup else none
  else none

/-- The tasks of a channel's work (R70). -/
def windowTask : Reel → Task
  | .supply => .supplyWindow
  | .takeup => .takeupWindow
def torqueTask : Reel → Task
  | .supply => .supplyTorque
  | .takeup => .takeupTorque

/-- A channel has begun its work of this frame and has not finished it. -/
def channelMidway (reel : Reel) (rest : List Task) : Bool :=
  rest.contains (torqueTask reel) && !rest.contains (windowTask reel)

/-- R92: the command waits until the channel has finished its work. -/
def afterTorque (reel : Reel) : List Task → List Task
  | [] => [.command]
  | t :: rest => if t = torqueTask reel then t :: .command :: rest else t :: afterTorque reel rest

/-- The tasks that are left when the command field's turn comes, in an order of their own, where a rule gives the command
another place among them: an open goes after the readers of a published record (R41), a READ_REEL after the work its channel has
begun (R92). -/
def commandPlace (f : Frame) (p : Progress) (rest : List Task) : Option (List Task) :=
  if opensAfterRecord f p then some (readersFirst rest)
  else
    match reelAsked f with
    | some reel => if channelMidway reel rest then some (afterTorque reel rest) else none
    | none => none

/-- The tasks of an arrival, in order. A frame may settle ESTOP to BRAKED, complete a RELEASE, and then compute the first command
of STOPPED (R184, R186, R91): it departs with that command, though R89 and R90 give the first departure after the entry, or after
an expiry of the silence timer, zero (the model's choice: log 44). -/
def runTasks (f : Frame) (sc : Schedule) (d : Delivery) : List Task → Progress → Progress
  | [], p => p
  | t :: rest, p =>
    match if t = .command then commandPlace f p rest else none with
    | some tasks => tasks.foldl (runTask f sc d) p
    | none => runTasks f sc d rest (runTask f sc d p t)

/-- R6, R10: the work of every unit at a good frame, in the schedule's order. -/
def unitWork (f : Frame) (sc : Schedule) (d : Delivery) (s : State) : State :=
  (runTasks f sc d (scheduleTasks sc) { state := s, movement := none, lateDwell := false }).state

/-! ## Sorting and departure (R1 to R4, R10) -/

/-- R4: a frame that passes its check repeats the last good SEQ. -/
def isRepeated (f : Frame) (s : State) : Bool := s.ring.baseline && f.seq == s.ring.lastSeq

/-- R2 to R4: the frame is good: it passes its check and does not repeat the last good SEQ. -/
def isGood (f : Frame) (s : State) : Bool := frameChecks f && !isRepeated f s

/-- R2 to R10: what a servo frame's arrival causes, up to its departure. -/
def arrivalWork (f : Frame) (sc : Schedule) (s : State) : State :=
  let s1 := restartTimer s
  if frameChecks f = false then arriveDamaged s1
  else if isRepeated f s1 then arriveRepeated s1
  else unitWork f sc (delivery f s1) (arriveGood f s1)

/-- R2: a servo frame arrives, and departs within its own frame period. -/
def servoFrame (f : Frame) (sc : Schedule) (s : State) : State := depart f (isGood f s) (arrivalWork f sc s)

/-- R1: a frame of another KIND is forwarded with every byte unchanged. -/
def foreignFrame (f : Frame) (s : State) : State := s.withRing { s.ring with out := frameBytes f }

/-- R1: the KIND byte is read first. -/
def frameArrival (f : Frame) (sc : Schedule) (s : State) : State :=
  if f.kind = servoKind then servoFrame f sc s else foreignFrame f s

/-- The schedule of an arrival that names none. -/
def canonicalSchedule : Schedule := { order := canonicalOrder, takeupFirst := false }

/-- FOREIGN_FRAME (R1); the KIND decides (log 30). -/
def execForeignFrame (f : Frame) (s : State) : Host.Outcome State Fault Refusal :=
  .next (frameArrival f canonicalSchedule s)

/-- SERVO_FRAME_ARRIVAL (R2); the KIND decides (log 30). -/
def execServoFrameArrival (f : Frame) (sched : Schedule) (s : State) : Host.Outcome State Fault Refusal :=
  .next (frameArrival f sched s)

end Sys2Proof.Machine
end

