-- ==== Sys2Proof/Machine/Dispatch.lean ====
section
/-! DEFINITION. The meaning of each command: one arm per constructor of Instr, in the order of the opcode table. -/

namespace Sys2Proof.Machine

def exec (i : Instr) (s : State) : Host.Outcome State Fault Refusal :=
  match i with
  | .powerOn => Sys2Proof.Machine.execPowerOn s
  | .foreignFrame f => Sys2Proof.Machine.execForeignFrame f s
  | .servoFrameArrival f sched => Sys2Proof.Machine.execServoFrameArrival f sched s
  | .senseLost growth goodSeq => Sys2Proof.Machine.execSenseLost growth goodSeq s
  | .silenceExpiry => Sys2Proof.Machine.execSilenceExpiry s
  | .pauseTimeout => Sys2Proof.Machine.execPauseTimeout s
  | .unknownCommand code tag params => Sys2Proof.Machine.execUnknownCommand code tag params s
  | .readRing tag params => Sys2Proof.Machine.execReadRing tag params s
  | .identify tag params => Sys2Proof.Machine.execIdentify tag params s
  | .readMessaging tag params => Sys2Proof.Machine.execReadMessaging tag params s
  | .restart tag params => Sys2Proof.Machine.execRestart tag params s
  | .configWrite tag params => Sys2Proof.Machine.execConfigWrite tag params s
  | .configCommit tag params => Sys2Proof.Machine.execConfigCommit tag params s
  | .configOpen tag params => Sys2Proof.Machine.execConfigOpen tag params s
  | .configClear tag params => Sys2Proof.Machine.execConfigClear tag params s
  | .configRead tag params => Sys2Proof.Machine.execConfigRead tag params s
  | .profileWindow tag params => Sys2Proof.Machine.execProfileWindow tag params s
  | .profileData tag params => Sys2Proof.Machine.execProfileData tag params s
  | .profileSelect tag params => Sys2Proof.Machine.execProfileSelect tag params s
  | .profileClear tag params => Sys2Proof.Machine.execProfileClear tag params s
  | .profileRead tag params => Sys2Proof.Machine.execProfileRead tag params s
  | .readReel tag params => Sys2Proof.Machine.execReadReel tag params s
  | .setPosition tag params => Sys2Proof.Machine.execSetPosition tag params s
  | .readPosition tag params => Sys2Proof.Machine.execReadPosition tag params s
  | .queueMotion tag params => Sys2Proof.Machine.execQueueMotion tag params s
  | .stopNow tag params => Sys2Proof.Machine.execStopNow tag params s
  | .flush tag params => Sys2Proof.Machine.execFlush tag params s
  | .setVarispeed tag params => Sys2Proof.Machine.execSetVarispeed tag params s
  | .resume tag params => Sys2Proof.Machine.execResume tag params s
  | .readTransport tag params => Sys2Proof.Machine.execReadTransport tag params s
  | .cueWrite tag params => Sys2Proof.Machine.execCueWrite tag params s
  | .cueWriteMany tag params => Sys2Proof.Machine.execCueWriteMany tag params s
  | .cueArm tag params => Sys2Proof.Machine.execCueArm tag params s
  | .cueDisarm tag params => Sys2Proof.Machine.execCueDisarm tag params s
  | .cueClear tag params => Sys2Proof.Machine.execCueClear tag params s
  | .cueRead tag params => Sys2Proof.Machine.execCueRead tag params s
  | .setOffset tag params => Sys2Proof.Machine.execSetOffset tag params s
  | .readSync tag params => Sys2Proof.Machine.execReadSync tag params s
  | .readFaults tag params => Sys2Proof.Machine.execReadFaults tag params s
  | .estop tag params => Sys2Proof.Machine.execEstop tag params s
  | .release tag params => Sys2Proof.Machine.execRelease tag params s
  | .radiusWindowStale reel => Sys2Proof.Machine.execRadiusWindowStale reel s
  | .senseMismatch reel => Sys2Proof.Machine.execSenseMismatch reel s
  | .torqueSaturated reel rawTorque => Sys2Proof.Machine.execTorqueSaturated reel rawTorque s
  | .trackAgeExpiry => Sys2Proof.Machine.execTrackAgeExpiry s
  | .supersession => Sys2Proof.Machine.execSupersession s
  | .pinchEngaged => Sys2Proof.Machine.execPinchEngaged s
  | .pinchReleased => Sys2Proof.Machine.execPinchReleased s
  | .dwellExpiry => Sys2Proof.Machine.execDwellExpiry s
  | .haltComplete => Sys2Proof.Machine.execHaltComplete s
  | .locateParked => Sys2Proof.Machine.execLocateParked s
  | .locateTimeout => Sys2Proof.Machine.execLocateTimeout s
  | .internalLocateActivate => Sys2Proof.Machine.execInternalLocateActivate s
  | .lockQualified e => Sys2Proof.Machine.execLockQualified e s
  | .stableQualified e => Sys2Proof.Machine.execStableQualified e s
  | .refLost => Sys2Proof.Machine.execRefLost s
  | .slack reel => Sys2Proof.Machine.execSlack reel s
  | .overtension reel => Sys2Proof.Machine.execOvertension reel s
  | .estopSettled => Sys2Proof.Machine.execEstopSettled s

end Sys2Proof.Machine
end

