-- ==== Sys2Proof/Safety.lean ====
section
/-! DEFINITION. What counts as a safe state of the part, and the terms the statements are written in: the bounds and
fail-safe conditions the manual gives, what a reply or a notice adds, and which parts of the state a step leaves alone. -/

namespace Sys2Proof.Machine

/-! ## Conditions every step keeps -/

/-- R31, R32, R113: the queues hold no more than their capacity. -/
def QueuesBounded (s : State) : Prop :=
  s.msg.replies.length ≤ 4 ∧ s.msg.notices.length ≤ 32 ∧ s.planner.queue.length ≤ 16

/-- R148: a gate line is open only in PLAY, or in CHASE with the chase LOCKED or STABLE, and never while the track is
ABSENT. -/
def GatesGuarded (s : State) : Prop :=
  s.cue.gates ≠ 0 →
    (s.planner.transport = .play ∨
      (s.planner.transport = .chase ∧ (s.chase.state = .locked ∨ s.chase.state = .stable))) ∧
    s.position.track ≠ .absent

/-- R149: no two ARMED entries share an address with overlapping directions. -/
def CuesDistinct (s : State) : Prop :=
  ∀ i j : Fin 32, i ≠ j → s.cue.entries[i].state = .armed → s.cue.entries[j].state = .armed →
    s.cue.entries[i].address = s.cue.entries[j].address →
      s.cue.entries[i].direction ≠ s.cue.entries[j].direction ∧
      s.cue.entries[i].direction ≠ .either ∧ s.cue.entries[j].direction ≠ .either

/-- R110: the transport is SAFE exactly while the configuration is NOT_VALID. -/
def SafeWhileNotValid (s : State) : Prop := s.config.valid = false ↔ s.planner.transport = .safe

/-- R110, the column "Active request". -/
def RequestSuitsTransport (s : State) : Prop :=
  match s.planner.transport with
  | .safe | .braked | .halting | .estop => s.planner.active = none
  | .stopped => ∀ r, s.planner.active = some r → r.kind = .dwell
  | .play => ∃ r, s.planner.active = some r ∧ r.kind = .play
  | .wind => ∃ r, s.planner.active = some r ∧ r.kind = .wind
  | .locate => ∃ r, s.planner.active = some r ∧ r.kind = .locate
  | .chase => ∃ r, s.planner.active = some r ∧ r.kind = .chase

/-- R163: the chase state is IDLE whenever no CHASE request is active. -/
def IdleUnlessChasing (s : State) : Prop := s.planner.transport ≠ .chase → s.chase.state = .idle

/-- R69, R110: in SAFE, BRAKED and ESTOP both torques, the reference and the target speed are zero and the pinch is
RELEASED. -/
def AtRest (s : State) : Prop :=
  s.planner.transport = .safe ∨ s.planner.transport = .braked ∨ s.planner.transport = .estop →
    s.supply.torque = 0 ∧ s.takeup.torque = 0 ∧ s.planner.vRef = 0 ∧ s.planner.target = 0 ∧ s.planner.pinch = .released

/-- R110, R125, R186: STOPPED is entered, and stays, at rest: v_ref and the target speed zero, the pinch RELEASED. -/
def StillWhileStopped (s : State) : Prop :=
  s.planner.transport = .stopped → s.planner.vRef = 0 ∧ s.planner.target = 0 ∧ s.planner.pinch = .released

/-- R134, R142, R145: a locate is in progress only as the request of LOCATE or as the internal locate of CHASE. -/
def LocateSuitsTransport (s : State) : Prop :=
  s.planner.loc.phase ≠ .none →
    (s.planner.transport = .locate ∧ s.planner.loc.kind = .request) ∨
      (s.planner.transport = .chase ∧ s.planner.loc.kind = .internal)

/-- R110: the motion queue is empty, with HOLD clear, in SAFE. -/
def QueueEmptyInSafe (s : State) : Prop :=
  s.planner.transport = .safe → s.planner.queue = [] ∧ s.planner.hold = false

/-- The transport, the configuration, the active request, the queue, the chase, the drive outputs and the locate agree. -/
def TransportSound (s : State) : Prop :=
  SafeWhileNotValid s ∧ RequestSuitsTransport s ∧ QueueEmptyInSafe s ∧ IdleUnlessChasing s ∧ AtRest s ∧
    StillWhileStopped s ∧ LocateSuitsTransport s

/-- R68: while the configuration is VALID, each command lies within its torque limit. -/
def TorquesLimited (s : State) : Prop :=
  s.config.valid = true →
    |s.supply.torque| ≤ s.torqueLim .supply ∧ |s.takeup.torque| ≤ s.torqueLim .takeup

/-! ## Terms of the statements -/

/-- The reply queue has room, so that a completed message is executed (R29). -/
def Ready (s : State) : Prop := s.msg.replies.length < 4

/-- The Message Unit after the completion of a message of CODE 00h..3Fh whose reply is queued: the assembly EMPTY, the reply
(header, RESULT, data) at the tail of the reply queue. -/
def answered (m : MessageUnit) (code tag result : Byte) (data : List Byte) : MessageUnit :=
  { m with
    assembly := .empty, buffer := [], fragments := 0, pauseRun := 0, handed := 0,
    replies := m.replies ++ [[code + 0x80, tag, BitVec.ofNat 8 (1 + data.length), result] ++ data] }

/-- The Message Unit after a notice (R32): queued at the tail, or dropped and counted where 32 wait. -/
def told (m : MessageUnit) (code subject : Byte) (data : List Byte) : MessageUnit :=
  if m.notices.length < 32 then
    { m with notices := m.notices ++ [[code, subject, BitVec.ofNat 8 data.length] ++ data] }
  else { m with noticesLost := min (m.noticesLost + 1) 65535 }

/-- The command is refused: its reply carries the result and these data, and nothing else changes (R35). -/
def refusedWith (s : State) (code tag result : Byte) (data : List Byte) : State :=
  { s with msg := answered s.msg code tag result data }

/-- The CODE, TAG and parameters of a command row (section 1.6); an unknown command's CODE is unassigned. -/
def commandCarried (i : Instr) : Option (Byte × Byte × List Byte) :=
  match i with
  | .unknownCommand code tag params => if codeAssigned code then none else some (code, tag, params)
  | .readRing tag params => some (0x01, tag, params)
  | .identify tag params => some (0x08, tag, params)
  | .readMessaging tag params => some (0x09, tag, params)
  | .restart tag params => some (0x0F, tag, params)
  | .configWrite tag params => some (0x10, tag, params)
  | .configCommit tag params => some (0x11, tag, params)
  | .configOpen tag params => some (0x12, tag, params)
  | .configClear tag params => some (0x13, tag, params)
  | .configRead tag params => some (0x14, tag, params)
  | .profileWindow tag params => some (0x18, tag, params)
  | .profileData tag params => some (0x19, tag, params)
  | .profileSelect tag params => some (0x1A, tag, params)
  | .profileClear tag params => some (0x1B, tag, params)
  | .profileRead tag params => some (0x1C, tag, params)
  | .readReel tag params => some (0x20, tag, params)
  | .setPosition tag params => some (0x21, tag, params)
  | .readPosition tag params => some (0x22, tag, params)
  | .queueMotion tag params => some (0x28, tag, params)
  | .stopNow tag params => some (0x29, tag, params)
  | .flush tag params => some (0x2A, tag, params)
  | .setVarispeed tag params => some (0x2B, tag, params)
  | .resume tag params => some (0x2C, tag, params)
  | .readTransport tag params => some (0x2D, tag, params)
  | .cueWrite tag params => some (0x30, tag, params)
  | .cueWriteMany tag params => some (0x31, tag, params)
  | .cueArm tag params => some (0x32, tag, params)
  | .cueDisarm tag params => some (0x33, tag, params)
  | .cueClear tag params => some (0x34, tag, params)
  | .cueRead tag params => some (0x35, tag, params)
  | .setOffset tag params => some (0x38, tag, params)
  | .readSync tag params => some (0x39, tag, params)
  | .readFaults tag params => some (0x3A, tag, params)
  | .estop tag params => some (0x3B, tag, params)
  | .release tag params => some (0x3C, tag, params)
  | .powerOn | .foreignFrame _ | .servoFrameArrival _ _ | .senseLost _ _ | .silenceExpiry | .pauseTimeout |
  .radiusWindowStale _ | .senseMismatch _ | .torqueSaturated _ _ | .trackAgeExpiry | .supersession | .pinchEngaged |
  .pinchReleased | .dwellExpiry | .haltComplete | .locateParked | .locateTimeout | .internalLocateActivate |
  .lockQualified _ | .stableQualified _ | .refLost | .slack _ | .overtension _ | .estopSettled => none

/-- The parts of the state. -/
inductive Part where
  | ring
  | msg
  | config
  | profile
  | supply
  | takeup
  | position
  | planner
  | cue
  | chase
  | protection
  | freeDraws
  | pending
deriving DecidableEq, Repr

/-- A part is the same in two states. -/
def sameIn (s t : State) (p : Part) : Prop :=
  match p with
  | .ring => t.ring = s.ring
  | .msg => t.msg = s.msg
  | .config => t.config = s.config
  | .profile => t.profile = s.profile
  | .supply => t.supply = s.supply
  | .takeup => t.takeup = s.takeup
  | .position => t.position = s.position
  | .planner => t.planner = s.planner
  | .cue => t.cue = s.cue
  | .chase => t.chase = s.chase
  | .protection => t.protection = s.protection
  | .freeDraws => t.freeDraws = s.freeDraws
  | .pending => t.pending = s.pending

/-- Every part but those listed is unchanged from s to t. -/
def UnchangedBut (changed : List Part) (s t : State) : Prop := ∀ p, p ∉ changed → sameIn s t p

/-- A channel with its command and what makes it at zero (R69, "Transport enters SAFE, BRAKED or ESTOP"). -/
def channelAtRest (c : ReelChannel) : ReelChannel :=
  { c with target := 0, tSet := 0, integrator := 0, torque := 0, saturated := false, satRun := 0 }

/-- R56 step 2: an entry brought within its ranges. -/
def withinBand (b : Band) : Band :=
  { tPlay := min b.tPlay 2000, tWind := min b.tWind 2000, tHold := min b.tHold 2000, kacc := min b.kacc 4095,
    accMax := max b.accMax 1 }

/-- R56 steps 2 to 5: an entry written into the window profile at the window's counter, and the counter advanced. -/
def bandWritten (x : Profile × LoadWindow) (b : Band) : Profile × LoadWindow :=
  let w := x.2
  let written := x.1.written ||| BitVec.ofNat 32 (2 ^ w.counter.val)
  ({ bands := x.1.bands.set w.counter (withinBand b), written := written,
     complete := x.1.complete || written == BitVec.allOnes 32 },
    { w with counter := if w.counter = w.last then w.first else w.counter + 1 })

/-- The nine commit checks of R46 pass. -/
def CommitChecksPass (s : State) : Prop :=
  (∀ id, 1 ≤ id → id ≤ 8 → (s.config.block id).present = true) ∧
  (s.rHub < s.rStart ∧ s.rStart ≤ s.rMax) ∧ s.rMax ≤ s.rHub + 32 * s.bandW ∧
  (∀ reel, ∀ i < 16, s.curve reel i ≤ s.curve reel (i + 1)) ∧
  (s.holdLow < s.holdHigh ∧ s.holdHigh ≤ 16) ∧ (s.creepSpeed ≤ s.jogMax ∧ s.jogMax ≤ s.windMax) ∧
  (s.playSpeed false ≤ s.capstanMax ∧ s.playSpeed true ≤ s.capstanMax) ∧
  (s.lockWindow < s.lossWindow ∧ s.lossWindow ≤ s.phaseWindow ∧ s.phaseWindow < s.acqWindow) ∧
  s.profile.profiles[s.profile.active].complete = true

/-- Section 1.6, Cue entry: eight bytes that carry a direction of 3, an action above 4, or a mask that does not suit. -/
def CueUnfit (bs : List Byte) : Prop :=
  let b := (bs.getD 4 0).toNat
  b % 4 = 3 ∨ 5 ≤ b / 4 % 8 ∨ (b / 4 % 8 ≤ 1 ↔ bs.getD 5 0 = 0)

/-- Section 1.6, Cue entry: the entry eight fit bytes carry, ARMED or DISARMED by the arm flag. -/
def CarriedCue (armed : Bool) (bs : List Byte) (e : CueEntry) : Prop :=
  let b := (bs.getD 4 0).toNat
  ¬ CueUnfit bs ∧ e.state = (if armed then .armed else .disarmed) ∧ e.address = leNat (bs.take 4) ∧
    e.direction.code = b % 4 ∧ e.action.code = b / 4 % 8 ∧ e.oneShot = decide (b / 32 % 2 = 1) ∧
    e.profile.val = b / 64 ∧ e.mask = bs.getD 5 0 ∧ e.label = leNat ((bs.drop 6).take 2)

/-- R149: one address, overlapping directions. -/
def Overlapping (a b : CueEntry) : Prop :=
  a.address = b.address ∧ (a.direction = b.direction ∨ a.direction = .either ∨ b.direction = .either)

/-- R153: entry i is named by the mask and DISARMED or SPENT. -/
def Candidate (s : State) (mask : Word32) (i : Fin 32) : Prop :=
  mask.getLsbD i = true ∧ (s.cue.entries[i].state = .disarmed ∨ s.cue.entries[i].state = .spent)

/-- R153: candidate i overlaps entry j, which is ARMED or a candidate of lower index. -/
def ArmConflict (s : State) (mask : Word32) (i j : Fin 32) : Prop :=
  Candidate s mask i ∧ j ≠ i ∧ (s.cue.entries[j].state = .armed ∨ (Candidate s mask j ∧ j < i)) ∧
    Overlapping s.cue.entries[j] s.cue.entries[i]

/-- The transport, not already in ESTOP, has been stopped by an ESTOP order (R112): nothing active, nothing queued, nothing
driven, every gate line closed; what the order does not name stands. -/
def Stopped (s t : State) : Prop :=
  t.planner.transport = .estop ∧ t.planner.active = none ∧ t.planner.queue = [] ∧ t.planner.hold = false ∧
    t.planner.target = 0 ∧ t.planner.vRef = 0 ∧ t.planner.aRef = 0 ∧ t.planner.refClass = .hold ∧
    t.planner.pinch = .released ∧ t.planner.mode = .none ∧ t.planner.loc.phase = .none ∧
    t.planner.ratio = s.planner.ratio ∧ t.planner.leading = s.planner.leading ∧
    t.planner.capCommand = s.planner.capCommand ∧ t.supply = channelAtRest s.supply ∧
    t.takeup = channelAtRest s.takeup ∧ t.cue.gates = 0 ∧ t.cue.entries = s.cue.entries ∧
    (if (s.planner.active.map (·.kind)) = some .chase then t.chase.state = .idle else t.chase = s.chase)

/-- The transport has been taken into HALTING (R112, R121, R125): no active request, target speed 0, the halting class the
class last published, every gate line closed; the published v_ref stands. -/
def Halted (s t : State) : Prop :=
  t.planner.transport = .halting ∧ t.planner.active = none ∧ t.planner.target = 0 ∧
    t.planner.haltingClass = s.planner.refClass ∧ t.planner.vRef = s.planner.vRef ∧ t.cue.gates = 0 ∧
    t.cue.entries = s.cue.entries

/-- PLAY, WIND, LOCATE or CHASE (R110). -/
def Moving (s : State) : Prop :=
  s.planner.transport = .play ∨ s.planner.transport = .wind ∨ s.planner.transport = .locate ∨
    s.planner.transport = .chase

/-- The notices that wait in s stand first in t, then a notice that s had room for (R32). -/
def toldFirst (s t : State) (code subject : Byte) (data : List Byte) : Prop :=
  s.msg.notices.length < 32 →
    (s.msg.notices ++ [[code, subject, BitVec.ofNat 8 data.length] ++ data]) <+: t.msg.notices

/-! ## Notices in the order they are queued -/

/-- R119: REQUEST_DONE of a request, with the code of its result. -/
def toldDone (r : Request) (result : Byte) (m : MessageUnit) : MessageUnit := told m 0xC4 r.tag [r.kind.code, result]

/-- R173, R174: SYNC_STATE of a chase that returns to IDLE, cause 11 for REF_LOST and 12 otherwise; a unit that is IDLE tells
nothing. -/
def toldIdle (result : Byte) (s : State) (m : MessageUnit) : MessageUnit :=
  if s.chase.state = .idle then m
  else told m 0xCA s.chase.tag ([0, s.chase.state.code, if result = 8 then 11 else 12] ++ leBytes 2 s.chase.lockLosses)

/-- R119, R173: what the end of the active request, if any, tells. -/
def toldEnd (result : Byte) (s : State) (m : MessageUnit) : MessageUnit :=
  match s.planner.active with
  | none => m
  | some r => if r.kind = .chase then toldIdle result s (toldDone r result m) else toldDone r result m

/-- R117: QUEUE_FLUSHED with its cause, where the flush removes records. -/
def toldFlush (cause : Byte) (s : State) (m : MessageUnit) : MessageUnit :=
  if s.planner.queue = [] then m else told m 0xC5 0 [BitVec.ofNat 8 s.planner.queue.length, cause]

/-- R161: GATES_CLOSED with its cause, where a line was open. -/
def toldGates (cause : Byte) (s : State) (m : MessageUnit) : MessageUnit :=
  if s.cue.gates = 0 then m else told m 0xC9 0 [s.cue.gates, cause]

/-- R33: the reply field of a departing frame, and the Message Unit after it: the next fragment of the message being sent, else
the first of the oldest reply, else of the oldest notice, else IDLE. -/
def Served (m : MessageUnit) (field : List Byte) (m' : MessageUnit) : Prop :=
  m' = { m with replies := m'.replies, notices := m'.notices, sending := m'.sending } ∧
  match m.sending, m.replies, m.notices with
  | some x, _, _ => 1 ≤ x.sent → 4 * x.sent < x.message.length →
      let done := x.message.length ≤ 4 * (x.sent + 1)
      field = (if done then 3 else 2) :: (x.message.drop (4 * x.sent) ++ [0, 0, 0]).take 4 ∧
      m' = { m with sending := if done then none else some { message := x.message, sent := x.sent + 1 } }
  | none, y :: rest, _ => y ≠ [] →
      field = (if y.length ≤ 4 then 4 else 1) :: (y ++ [0, 0, 0]).take 4 ∧
      m' = { m with replies := rest, sending := if y.length ≤ 4 then none else some { message := y, sent := 1 } }
  | none, [], y :: rest => y ≠ [] →
      field = (if y.length ≤ 4 then 4 else 1) :: (y ++ [0, 0, 0]).take 4 ∧
      m' = { m with notices := rest, sending := if y.length ≤ 4 then none else some { message := y, sent := 1 } }
  | none, [], [] => field = [0, 0, 0, 0, 0] ∧ m' = m

/-! ## Fragments (R20 to R28) -/

/-- R28: the entries of a streamed message that stand complete in a buffer: entry j occupies the bytes from 3 + 9j of a
PROFILE_DATA (R55), and from 5 + 8j of a CUE_WRITE_MANY (R152); bytes beyond 2 + LEN form none. -/
def entriesComplete (buffer : List Byte) : List (List Byte) :=
  let code := buffer.getD 0 0
  let held := min buffer.length (3 + (buffer.getD 2 0).toNat)
  let complete (base size : Nat) : List (List Byte) :=
    ((List.range held).filter fun j => base + size * (j + 1) ≤ held).map fun j => (buffer.drop (base + size * j)).take size
  if code = 0x19 then complete 3 9 else if code = 0x31 then complete 5 8 else []

/-- R20, R22, R25: what the Message Unit holds of the message in progress: in ASSEMBLING four bytes a fragment, a LEN that more
fragments can still fill, and the count of its complete entries; nothing in EMPTY and DISCARDING but the pause run of DISCARDING,
which stays below 64. -/
def AssemblyKept (s : State) : Prop :=
  let m := s.msg
  let len := (m.buffer.getD 2 0).toNat
  m.pauseRun < 64 ∧
  (m.assembly = .empty → m.buffer = [] ∧ m.fragments = 0 ∧ m.pauseRun = 0 ∧ m.handed = 0) ∧
  (m.assembly = .assembling →
    m.buffer.length = 4 * m.fragments ∧ 1 ≤ m.fragments ∧ 1 < len ∧ len ≤ 61 ∧ 4 * m.fragments < 3 + len ∧
      m.handed = (entriesComplete m.buffer).length) ∧
  (m.assembly = .discarding → m.buffer = [] ∧ m.fragments = 0 ∧ m.handed = 0)

/-- R20: the Message Unit with its assembly EMPTY. -/
def emptied (m : MessageUnit) : MessageUnit :=
  { m with assembly := .empty, buffer := [], fragments := 0, pauseRun := 0, handed := 0 }

/-- R31: the Message Unit after a reply: at the tail of the reply queue, or lost where 4 wait. A CODE above 3Fh is answered as
BFh. -/
def repliedWith (m : MessageUnit) (code tag result : Byte) (data : List Byte) : MessageUnit :=
  if m.replies.length < 4 then
    { m with replies := m.replies ++
      [[if code.toNat ≤ 0x3F then code + 0x80 else 0xBF, tag, BitVec.ofNat 8 (1 + data.length), result] ++ data] }
  else { m with overruns := min (m.overruns + 1) 65535, overrunLatch := true }

/-- R27, R28: the count of entries the message in progress has written; 0 for a command that is not streamed. -/
def entriesWritten (s : State) : Byte :=
  let code := s.msg.buffer.getD 0 0
  if s.msg.handed = 0 then 0
  else if code = 0x19 then BitVec.ofNat 8 s.profile.count
  else if code = 0x31 then BitVec.ofNat 8 s.cue.count
  else 0

/-- R23, R27: the Message Unit after a break event: a message in ASSEMBLING is counted and answered BROKEN, one that is being
discarded is dropped. -/
def messageBroken (s : State) : MessageUnit :=
  match s.msg.assembly with
  | .empty => s.msg
  | .discarding => emptied s.msg
  | .assembling =>
    repliedWith { emptied s.msg with broken := min (s.msg.broken + 1) 65535 } (s.msg.buffer.getD 0 0) (s.msg.buffer.getD 1 0)
      0x1D [entriesWritten s]

/-- R55, R56: the active profile, in the states in which it may not be written. -/
def bandLocked (s : State) (w : LoadWindow) : Bool :=
  w.profile == s.profile.active && [Transport.play, .wind, .locate, .chase, .halting].contains s.planner.transport

/-- R55: the RESULT with which the opening of a PROFILE_DATA is refused, if it is. -/
def profileRefusal (len : Nat) (s : State) : Option Byte :=
  if len = 0 ∨ len % 9 ≠ 0 then some 0x11
  else
    match s.profile.window with
    | none => some 0x18
    | some w => if bandLocked s w then some 0x16 else none

/-- R151: the RESULT with which the opening of a CUE_WRITE_MANY is refused, if it is. -/
def cueRefusal (len : Nat) (first : Byte) : Option Byte :=
  if len ∉ [10, 18, 26, 34] then some 0x11 else if 32 < first.toNat + (len - 2) / 8 then some 0x12 else none

/-- R56: the Profile Unit once an entry is handed to it. -/
def bandTaken (bs : List Byte) (s : State) : ProfileUnit :=
  let x := s.profile
  match x.window with
  | none => x
  | some w =>
    if x.result = .inUse then x
    else if bandLocked s w then { x with result := .inUse }
    else
      let b := bandOf bs
      let y := bandWritten (x.profiles[w.profile], w) b
      { x with
        profiles := x.profiles.set w.profile y.1, window := some y.2, count := x.count + 1,
        result := if withinBand b ≠ b ∧ x.result = .ok then .clamped else x.result }

/-- Section 1.6, Cue entry: the entry eight bytes carry, where they fit. -/
def cueCarried (armed : Bool) (bs : List Byte) : CueEntry :=
  let b := (bs.getD 4 0).toNat
  { state := if armed then .armed else .disarmed, address := leNat (bs.take 4),
    direction := [CueDirection.fwd, .rev, .either].getD (b % 4) .either,
    action := [CueAction.gateOpen, .gateClose, .notice, .halt, .profile].getD (b / 4 % 8) .profile,
    oneShot := decide (b / 32 % 2 = 1), profile := Fin.ofNat 4 (b / 64), mask := bs.getD 5 0,
    label := leNat ((bs.drop 6).take 2) }

/-- R152: the Cue Unit once an entry is handed to it. -/
def cueTaken (armed : Bool) (bs : List Byte) (s : State) : CueUnit :=
  let x := s.cue
  let b := (bs.getD 4 0).toNat
  let e := cueCarried armed bs
  let meets (a c : CueDirection) : Bool := a == c || a == .either || c == .either
  if x.result ≠ .ok then x
  else if b % 4 = 3 ∨ 5 ≤ b / 4 % 8 ∨ (b / 4 % 8 ≤ 1 ↔ bs.getD 5 0 = 0) then { x with result := .badValue }
  else
    match (List.finRange 32).find? fun j => armed && j.val != x.writeIndex && x.entries[j].state == .armed &&
        x.entries[j].address == e.address && meets x.entries[j].direction e.direction with
    | some j => { x with result := .duplicate, conflict := some j.val }
    | none =>
      { x with
        entries := x.entries.setIfInBounds x.writeIndex e, count := x.count + 1, writeIndex := x.writeIndex + 1 }

/-- R28: the entries a fragment completes, handed to their owner in message order; the buffer holds the message up to that
fragment, and `before` is the number of entries that stood complete before it. -/
def entriesTaken (buffer : List Byte) (before : Nat) (s : State) : State :=
  ((entriesComplete buffer).drop before).foldl (fun u bs =>
    if buffer.getD 0 0 = 0x19 then { u with profile := bandTaken bs u }
    else { u with cue := cueTaken ((buffer.getD 4 0).getLsbD 0) bs u }) s

/-- The message a row of the command table carries is complete, and the row runs (R29). -/
def RowRuns (code tag : Byte) (params : List Byte) (s t : State) : Prop :=
  ∀ i, commandCarried i = some (code, tag, params) → exec i s = .next t

/-- R57, R152: a streamed message is complete, and its owner answers it: the window, the counts and the result as they stand. -/
def StreamEnds (code tag first : Byte) (s t : State) : Prop :=
  let answers (result : Result) (data : List Byte) : Prop :=
    t = { s with msg := repliedWith (emptied s.msg) code tag result.code data }
  if code = 0x19 then
    ∀ w, s.profile.window = some w → answers s.profile.result
      [BitVec.ofNat 8 w.profile, BitVec.ofNat 8 s.profile.count, BitVec.ofNat 8 w.counter,
        if s.profile.profiles[w.profile].complete then 1 else 0]
  else
    answers s.cue.result
      [first, BitVec.ofNat 8 s.cue.count, match s.cue.conflict with | some j => BitVec.ofNat 8 j | none => 0xFF]

/-- R21 to R28: what the command field of a good frame does from s, by its mark and the assembly state; a framing failure is
answered before an entry of its fragment is handed over (log 12), and a MORE passed over zeroes the pause run (log 13). -/
def FragmentTaken (mark : Byte) (data : Quad) (s t : State) : Prop :=
  let m := s.msg
  let malformed (x : MessageUnit) : MessageUnit := { x with malformed := min (m.malformed + 1) 65535 }
  let broken : State := { s with msg := messageBroken s }
  -- a message that starts with this fragment
  let len := data.b2.toNat
  let started : MessageUnit :=
    { messageBroken s with assembly := .assembling, buffer := quadBytes data, fragments := 1, pauseRun := 0, handed := 0 }
  let refused (discards : Bool) (result : Byte) : State := { s with
    msg := repliedWith { emptied (messageBroken s) with assembly := if discards then .discarding else .empty }
      data.b0 data.b1 result [] }
  -- the message in progress with this fragment appended
  let bytes := m.buffer ++ quadBytes data
  let n := m.fragments + 1
  let code := bytes.getD 0 0
  let tag := bytes.getD 1 0
  let whole := (bytes.getD 2 0).toNat
  let opens : Option Byte := if code = 0x31 ∧ n = 2 then cueRefusal whole (bytes.getD 3 0) else none
  let opened : State :=
    if code = 0x31 ∧ n = 2 then
      { s with cue := { s.cue with writeIndex := (bytes.getD 3 0).toNat, count := 0, result := .ok, conflict := none } }
    else s
  let handed : State := entriesTaken bytes (entriesComplete m.buffer).length opened
  let turned (discards : Bool) (result : Byte) (count : List Byte) : State := { s with
    msg := repliedWith { emptied m with assembly := if discards then .discarding else .empty } code tag result count }
  let failed (discards : Bool) : State := turned discards 0x11 (if m.handed = 0 then [] else [entriesWritten s])
  match mark.toNat, m.assembly with
  | 0, .empty => t = s
  | 0, _ => t = if m.pauseRun < 63 then { s with msg := { m with pauseRun := m.pauseRun + 1 } } else broken
  | 1, _ =>
    t = if 61 < len ∨ len ≤ 1 then refused true 0x11
      else if data.b0 = 0x19 then
        match profileRefusal len s with
        | some result => refused true result
        | none => { s with profile := { s.profile with count := 0, result := .ok }, msg := started }
      else { s with msg := started }
  | 2, .empty | 3, .empty => t = { s with msg := malformed m }
  | 2, .discarding => t = { s with msg := { m with pauseRun := 0 } }
  | 3, .discarding => t = { s with msg := emptied m }
  | 2, .assembling =>
    t = if 3 + whole ≤ 4 * n then failed true
      else
        match opens with
        | some result => turned true result []
        | none => { handed with msg := { m with
            buffer := bytes, fragments := n, pauseRun := 0, handed := (entriesComplete bytes).length } }
  | 3, .assembling =>
    if 4 * n < 3 + whole then t = failed false
    else
      match opens with
      | some result => t = turned false result []
      | none =>
        if code = 0x19 ∨ code = 0x31 then StreamEnds code tag (bytes.getD 3 0) handed t
        else RowRuns code tag ((bytes.drop 3).take whole) s t
  | 4, _ =>
    if 1 < len ∨ data.b0 = 0x19 then t = refused false 0x11
    else RowRuns data.b0 data.b1 ([data.b3].take len) broken t
  | _, _ => t = { s with msg := malformed (messageBroken s) }

/-- R6, R20, R26: w is what a good servo frame's work leaves of s: the command field is taken from a state u, whose Message Unit
is that of s, broken first where frames are missing; beside that the work only queues notices. Under NOT_VALID nothing else is
done. -/
def FrameFragment (f : Frame) (s u w : State) : Prop :=
  let missing := s.ring.baseline = true ∧ s.ring.damagedRun < (f.seq - s.ring.lastSeq - 1).toNat
  let noticed (m x : MessageUnit) : Prop := x = { m with notices := x.notices, noticesLost := x.noticesLost }
  let v := takeFragment f.cmdMark f.cmdData u
  noticed (if missing then messageBroken s else s.msg) u.msg ∧ FragmentTaken f.cmdMark f.cmdData u v ∧ noticed v.msg w.msg ∧
    u.config = s.config ∧ u.pending = s.pending ∧ u.profile = { s.profile with active := u.profile.active } ∧
    (s.config.valid = false → UnchangedBut [.ring, .msg] s u ∧ w = v)

/-! ## Requests: how one starts, ends and is followed -/

/-- R99: S of a count position. -/
def sectorAt (s : State) (p : Word32) : Int := (p.toInt - s.readerOffset) * 256 / (s.sectorLen : Int)

/-- R99: E(n), the leading boundary of sector n. -/
def boundaryAt (s : State) (n : Nat) : Word32 := BitVec.ofInt 32 ((n : Int) * s.sectorLen + s.readerOffset)

/-- R130: the play target. -/
def playGoal (s : State) (speedB : Bool) : Int :=
  min (s.capstanMax : Int) ((2 * (s.playSpeed speedB * s.planner.ratio) + 4096) / 8192 : Nat)

/-- R129: the pinch once a release is called for: ENGAGING goes straight to RELEASING. -/
def pinchCalledOff (s : State) (x : Pinch) : Pinch :=
  match x with
  | .engaging _ => if s.releaseFrames = 0 then .released else .releasing s.releaseFrames
  | _ => x

/-- R135, R144: the locate record and the target speed with which the approach to an address begins, from D: PARK within
PARK_WINDOW, CRUISE toward the target beyond it; a request locate gets its budget. -/
def locateBegun (s : State) (kind : LocateKind) (address : Int) (limit : Nat) : LocateRecord × Int :=
  let target : Word32 := BitVec.ofInt 32 (address * s.sectorLen / 256 + s.readerOffset)
  let d := (target - s.position.p).toInt
  let near := |d| ≤ (s.parkWindow : Int)
  ({ kind := kind, phase := if near then .park else .cruise,
     reverse := if near then decide (s.planner.vRef < 0) else decide (d < 0), target := target,
     remaining := if kind = .request then min (d.natAbs / s.sectorLen * s.locK / 1024 + s.locOffset) 4294967295 else 0,
     overshoots := 0 },
    if near then 0 else if d < 0 then -(limit : Int) else limit)

/-- R166: the choice for a CHASE request: the state, the first order, and the address of a locate or the speed of a capstan
order. The error, from P as held, is the choice's own (log 20). -/
def chaseChoice (r : Request) (s : State) : ChaseState × ChaseOrder × Int :=
  let tq : Int := (s.ring.ref.toNat : Int) + r.offset
  let e := tq - sectorAt s s.position.p
  if s.position.track = .absent ∨ s.ring.refValid = false then (.standby, .hold, 0)
  else if referenceRuns s = false then (.standby, .locate, tq)
  else if (s.phaseWindow : Int) < e ∨ e < -(s.acqWindow : Int) then (.acquire, .locate, tq + s.acqLead)
  else (.slew, .capstan, if e < -(s.phaseWindow : Int) then 0 else s.chase.basis)

/-- R163, R166: the Chase Unit once the request is active. -/
def chaseTakenUp (r : Request) (s : State) : ChaseUnit :=
  let x := chaseChoice r s
  { s.chase with
    state := x.1, tag := r.tag, offset := r.offset, trim := 0, trimMax := 0, trimMin := 0, qualRun := 0, absentRun := 0,
    framesInState := if s.chase.state = x.1 then s.chase.framesInState else 0,
    lastOrder := x.2.1, locatePending := decide (x.2.1 = .locate),
    lastTarget := if x.2.1 = .locate then x.2.2 else s.chase.lastTarget,
    supplied := if x.2.1 = .capstan then x.2.2.toNat else s.chase.supplied }

/-- R130, R144, R166: a planner p with no locate in progress, once it has the request's first order; in WAIT the direction of the
fresh record is open (log 34). -/
def chaseOrdered (r : Request) (s : State) (p : Planner) (direction : Bool) : Planner :=
  let x := chaseChoice r s
  let q := { p with transport := .chase, active := some r, capstanWaits := false, target := 0 }
  match x.2.1 with
  | .locate =>
    let begun := locateBegun s .internal x.2.2 s.windMax
    if p.pinch = .released ∧ s.planner.vRef = 0 then { q with mode := .locate, loc := begun.1, target := begun.2 }
    else
      { q with
        mode := .locate, pinch := pinchCalledOff s p.pinch, loc := { begun.1 with phase := .wait, reverse := direction } }
  | .capstan =>
    let pinch :=
      match p.pinch with
      | .released => if s.engageFrames = 0 then .engaged else .engaging s.engageFrames
      | .releasing _ => .engaged
      | x => x
    { q with
      mode := .capstan, capstanWaits := decide (p.pinch = .released), pinch := pinch,
      target := if pinch = .engaged ∨ p.pinch ≠ .released then min (s.capstanMax : Int) x.2.2 else 0 }
  | _ => { q with mode := .parked, pinch := pinchCalledOff s p.pinch }

/-- R183: an inhibit bars the direction a request moves tape in; a LOCATE's is that of its approach. -/
def Barred (s : State) (r : Request) : Prop :=
  (match r.kind with
    | .play | .chase => s.protection.inhibitForward
    | .wind => if r.reverse then s.protection.inhibitReverse else s.protection.inhibitForward
    | .locate =>
      if (locateBegun s .request r.target r.speed).1.reverse then s.protection.inhibitReverse
      else s.protection.inhibitForward
    | _ => false) = true

/-- R121: a request of the same family takes the motion over: WIND and LOCATE, or PLAY and CHASE with the pinch ENGAGING or
ENGAGED. -/
def TakesOver (ended head : RequestKind) (pinch : Pinch) : Prop :=
  ((ended = .wind ∨ ended = .locate) ∧ (head = .wind ∨ head = .locate)) ∨
    ((ended = .play ∨ ended = .chase) ∧ (head = .play ∨ head = .chase) ∧
      (pinch.code = 1 ∨ pinch = .engaged))

/-- R119, R142, R145: the planner once its active request has ended, COMPLETED or SUPERSEDED. -/
def plannerEnded (r : Request) (result : EndResult) (s : State) : Planner :=
  { s.planner with
    active := none, dwell := 0, loc := { s.planner.loc with phase := .none },
    resume := if r.kind = .locate ∧ result = .completed then none else s.planner.resume,
    mode := if r.kind = .chase then .none else s.planner.mode,
    capstanWaits := if r.kind = .chase then false else s.planner.capstanWaits }

/-- R173: the Chase Unit returned to IDLE. -/
def chaseEnded (s : State) : ChaseUnit :=
  if s.chase.state = .idle then s.chase
  else
    { s.chase with
      state := .idle, trim := 0, framesInState := 0, qualRun := 0, absentRun := 0, lastOrder := .none,
      locatePending := false, lastTarget := 0, supplied := 0 }

/-- R125, R161: HALTING entered from s with these registers of the planner, the chase and the Message Unit. -/
def HaltedWith (s : State) (p : Planner) (c : ChaseUnit) (m : MessageUnit) (t : State) : Prop :=
  t = { s with
    planner := { p with
      transport := .halting, haltingClass := s.planner.refClass, target := 0, mode := .none, capstanWaits := false,
      pinch := pinchCalledOff s p.pinch },
    chase := c, cue := { s.cue with gates := 0 }, msg := toldGates 1 s m }

/-- R121: the active request r ends COMPLETED or SUPERSEDED in a moving state, and what follows, exactly: a head of the same
family takes the motion over, or ends at a failed check with the transport halted; any other head, or none, halts it. -/
def Succeeds (r : Request) (result : EndResult) (s t : State) : Prop :=
  let done := toldDone r result.code s.msg
  let p := plannerEnded r result s
  let returned := if r.kind = .chase then toldIdle result.code s done else done
  let unit := if r.kind = .chase then chaseEnded s else s.chase
  match s.planner.queue with
  | [] => HaltedWith s p unit returned t
  | head :: rest =>
    let h := testUntil s head
    let begun := locateBegun s .request h.target h.speed
    let active (m : MessageUnit) := told m 0xC3 h.tag [h.kind.code, errorByte h.errors]
    let q : Planner := { p with
      queue := rest, hold := if rest.length ≤ s.holdLow then false else p.hold, active := some h }
    let ended : Planner := { q with active := none }
    (¬ TakesOver r.kind head.kind s.planner.pinch → HaltedWith s p unit returned t) ∧
    (TakesOver r.kind head.kind s.planner.pinch →
      match head.kind with
      | .play =>
        (Barred s h → HaltedWith s ended unit (toldDone h 9 (active returned)) t) ∧
        (¬ Barred s h → t = { s with
          planner := { q with
            transport := .play, target := if s.planner.pinch = .engaged then playGoal s h.speedB else 0 },
          chase := unit, msg := active returned })
      | .wind =>
        (Barred s h → HaltedWith s ended unit (toldDone h 9 (active returned)) t) ∧
        (¬ Barred s h → t = { s with
          planner := { q with transport := .wind, target := if h.reverse then -(h.speed : Int) else h.speed },
          msg := active returned })
      | .locate =>
        (s.position.track = .absent → HaltedWith s ended unit (toldDone h 6 (active returned)) t) ∧
        (s.position.track ≠ .absent → Barred s h →
          HaltedWith s { ended with loc := { begun.1 with phase := .none } } unit (toldDone h 9 (active returned)) t) ∧
        (s.position.track ≠ .absent → ¬ Barred s h → t = { s with
          planner := { q with transport := .locate, loc := begun.1, target := begun.2 }, msg := active returned })
      | .chase =>
        let sync (m : MessageUnit) := told m 0xCA h.tag
          ([(chaseChoice h s).1.code, s.chase.state.code, 1] ++ leBytes 2 s.chase.lockLosses)
        (Barred s h → HaltedWith s ended (chaseEnded s) (toldIdle 9 s (toldDone h 9 (active done))) t) ∧
        (¬ Barred s h →
          t = { s with
            planner := chaseOrdered h s q t.planner.loc.reverse, chase := chaseTakenUp h s,
            cue := { s.cue with gates := 0 }, freeDraws := t.freeDraws,
            msg := if r.kind = .chase then toldGates 2 s (sync (active done)) else sync (toldGates 1 s (active done)) } ∧
          (t.planner.loc.phase ≠ .wait → t.freeDraws = s.freeDraws))
      | _ => False)

/-! ## What a good frame's work does -/

/-- R2 to R4, R40: a good servo frame with an IDLE command field, while VALID. -/
def GoodIdleFrame (f : Frame) (s : State) : Prop :=
  f.kind = 0xA5 ∧ frameChecks f = true ∧ ¬ (s.ring.baseline = true ∧ f.seq = s.ring.lastSeq) ∧ f.cmdMark = 0 ∧
    s.config.valid = true

/-- R4: m, the frames that never arrived between the last good frame and f. -/
def framesMissed (f : Frame) (s : State) : Nat :=
  if s.ring.baseline then (f.seq - s.ring.lastSeq - 1).toNat - s.ring.damagedRun else 0

/-- R5, R9: while VALID, f is handled as a re-baseline. -/
def rebaselines (f : Frame) (s : State) : Bool :=
  s.ring.stale || (s.ring.baseline && decide (s.holdLimit < s.ring.lapse + framesMissed f s))

/-- R4, R6: k, the frames f's deltas span. -/
def framesSpanned (f : Frame) (s : State) : Nat :=
  if s.ring.baseline && !rebaselines f s then (f.seq - s.ring.lastSeq - 1).toNat + 1 else 1

/-- R6, R71: a count's change since the last good frame, mirrored where its flag is set. -/
def countChange (f : Frame) (s : State) (mirrored : Bool) (new old : Word16) : Int :=
  if s.ring.baseline && !rebaselines f s then (if mirrored then -(new - old).toInt else (new - old).toInt) else 0

def idlerChange (f : Frame) (s : State) : Int := countChange f s (s.senseFlags.getLsbD 2) f.idler s.ring.lastIdler

def reelChange (f : Frame) (s : State) : Reel → Int
  | .supply => countChange f s (s.senseFlags.getLsbD 0) f.supTach s.ring.lastSup
  | .takeup => countChange f s (s.senseFlags.getLsbD 1) f.takTach s.ring.lastTak

/-- R96 step 1: P moved by the idler's change. -/
def movedPosition (f : Frame) (s : State) : Word32 := s.position.p + BitVec.ofInt 32 (idlerChange f s)

/-- R99 to R104: what a frame's TRACK word is: none or an unconfirmed repeat; a repeat that confirms; a new word while ABSENT, with
the anchor run it leaves; a new word within SNAP_WINDOW; a discrepant one, with the run it leaves. -/
inductive FrameWord where
  | nothing
  | confirms
  | anchors (run : Nat)
  | snaps
  | deviates (run : Nat)
deriving DecidableEq, Repr

/-- R98, R100 to R104: the frame's word, after a re-baseline with no last word and empty runs; it joins a run where it is
consistent with the run's word. -/
def frameWord (f : Frame) (s : State) : FrameWord :=
  let x := s.position
  let fresh := rebaselines f s
  let n := f.track.toNat % 16777216
  let off := |(boundaryAt s n - movedPosition f s).toInt|
  let joins (w : Nat) : Prop :=
    (n = w + 1 ∧ 0 < x.wordTravel + idlerChange f s) ∨ (n + 1 = w ∧ x.wordTravel + idlerChange f s < 0)
  let new : FrameWord :=
    if x.track = .absent then .anchors (if fresh = false ∧ 0 < x.anchorRun ∧ joins x.anchorWord then x.anchorRun + 1 else 1)
    else if off ≤ (s.snapWindow : Int) then .snaps
    else .deviates (if fresh = false ∧ 0 < x.discRun ∧ joins x.discWord then x.discRun + 1 else 1)
  if f.track.getLsbD 31 = false then .nothing
  else
    match x.lastWord with
    | none => new
    | some w =>
      if fresh = true ∨ w.sector ≠ n then new
      else if w.accepted = true ∧ off ≤ (s.sectorLen : Int) + s.snapWindow then .confirms
      else .nothing

/-- R96 to R104: the Position Unit after the frame. The sector number an empty run holds is the model's choice (log 36). -/
def positionAfter (f : Frame) (s : State) : PositionUnit :=
  let x := s.position
  let n := f.track.toNat % 16777216
  let v := roundDiv (idlerChange f s * 256) (framesSpanned f s)
  let moved : PositionUnit := { x with
    p := movedPosition f s, wordTravel := x.wordTravel + idlerChange f s, vMeas := x.vMeas + roundDiv (v - x.vMeas) 4 }
  let based : PositionUnit :=
    if rebaselines f s then
      { moved with
        lastWord := none, wordTravel := 0, anchorRun := 0, anchorWord := 0, discRun := 0, discWord := 0,
        track := if x.track = .tracking then .coasting else x.track }
    else moved
  let aged (y : PositionUnit) : PositionUnit :=
    let age := min (y.trackAge + 1) 65535
    { y with trackAge := age, track := if y.track = .tracking ∧ s.trackAgeLimit ≤ age then .coasting else y.track }
  let waiting (y : PositionUnit) : PositionUnit := { y with lastWord := some { sector := n, accepted := false }, wordTravel := 0 }
  let accepted (y : PositionUnit) : PositionUnit := { y with
    p := boundaryAt s n, track := .tracking, trackAge := 0, discRun := 0, discWord := 0,
    accepted := min (y.accepted + 1) 65535, lastWord := some { sector := n, accepted := true }, wordTravel := 0 }
  let y :=
    match frameWord f s with
    | .nothing => aged based
    | .confirms => { based with trackAge := 0 }
    | .anchors run =>
      if run < 3 then aged (waiting { based with anchorRun := run, anchorWord := n })
      else accepted { based with anchorRun := 0, anchorWord := 0 }
    | .snaps => accepted based
    | .deviates run =>
      if run < 3 then
        aged (waiting { based with discRun := run, discWord := n, discrepant := min (based.discrepant + 1) 65535 })
      else accepted { based with reanchors := min (based.reanchors + 1) 65535 }
  { y with coasted := if y.track = .coasting then min (y.coasted + 1) 65535 else y.coasted }

/-- R106: S1 of the frame's record is that of P1, which has a snap in it but not a jump. -/
def recordEnd (f : Frame) (s : State) : Int :=
  sectorAt s (if frameWord f s = .snaps then boundaryAt s (f.track.toNat % 16777216) else movedPosition f s)

/-- R72 to R77: a channel's tension and radius window after the frame. -/
def WindowMoved (f : Frame) (s t : State) (reel : Reel) : Prop :=
  let c := s.channel reel
  let w := t.channel reel
  let arm := min (match reel with | .supply => f.supArm | .takeup => f.takArm).toNat 4095
  let low := s.curve reel (arm / 256)
  let a := c.reelAcc + reelChange f s reel
  let b := c.idlerAcc + idlerChange f s
  let agrees := match reel with | .takeup => 0 < a * b | .supply => a * b < 0
  let raw := clampTo s.rHub s.rMax (roundDiv (|b| * s.rgain reel) (|a| * 1024))
  let emptied := w.reelAcc = 0 ∧ w.idlerAcc = 0 ∧ w.age = 0
  w.tMeas = low + ((s.curve reel (arm / 256 + 1) - low) * (arm % 256) + 128) / 256 ∧
  ((s.rwin : Int) ≤ |a| → agrees →
    emptied ∧ (w.radius : Int) = max 0 (c.radius + roundDiv (raw - c.radius) 4) ∧ w.known = true ∧ w.mismatch = 0) ∧
  ((s.rwin : Int) ≤ |a| → ¬ agrees →
    emptied ∧ w.radius = c.radius ∧ w.known = c.known ∧ w.mismatch = min (c.mismatch + 1) 65535) ∧
  (|a| < (s.rwin : Int) →
    w.radius = c.radius ∧ w.known = c.known ∧ w.mismatch = c.mismatch ∧
    if s.rstale ≤ c.age + 1 then emptied else w.reelAcc = a ∧ w.idlerAcc = b ∧ w.age = c.age + 1)

/-- R79 to R87: a channel's torque command after the frame, from the reference the previous departure published; the active
profile is that before or after a switch of the same frame. In SAFE, BRAKED and ESTOP none is computed. -/
def TorqueFormed (s t : State) (reel : Reel) : Prop :=
  let c := s.channel reel
  let w := t.channel reel
  let rests (x : Transport) : Prop := x = .safe ∨ x = .braked ∨ x = .estop
  let formed (active : Fin 4) : Prop :=
    let u : State := { s with profile := { s.profile with active := active } }
    let target := tensionTarget u s.planner.refClass w.radius
    let e : Int := (w.tSet : Int) - w.tMeas
    let candidate := clampSym s.iLim (c.integrator + s.ki * e)
    let accel := roundDiv (s.planner.aRef * accelGain u w.radius) 16
    let speed :=
      if s.planner.leading = reel ∧ (s.planner.refClass = .wind ∨ s.planner.refClass = .locate) then
        roundDiv (s.kv * (s.planner.vRef - t.position.vMeas)) 256
      else 0
    let static := roundDiv ((w.tSet : Int) * w.radius) 100
    let correction := roundDiv (s.kp * e + candidate) 1024
    let raw := match reel with
      | .takeup => static + accel + speed + correction
      | .supply => static - accel - speed + correction
    let lim : Int := s.torqueLim reel
    w.target = target ∧
    w.tSet = (if c.tSet < target then min target (c.tSet + s.tensionSlew) else max target (c.tSet - s.tensionSlew)) ∧
    w.torque = max (-lim) (min lim raw) ∧
    w.integrator = (if (lim < raw ∧ 0 < e) ∨ (raw < -lim ∧ e < 0) then c.integrator else candidate) ∧
    w.saturated = decide (lim < |raw|) ∧ w.satRun = if lim < |raw| then min (c.satRun + 1) 65535 else 0
  (¬ rests t.planner.transport → ∃ active, (active = s.profile.active ∨ active = t.profile.active) ∧ formed active) ∧
  (rests t.planner.transport → ¬ rests s.planner.transport →
    w.target = 0 ∧ w.tSet = 0 ∧ w.integrator = 0 ∧ w.torque = 0 ∧ w.saturated = false ∧ w.satRun = 0) ∧
  (rests s.planner.transport → w.torque = c.torque ∨ w.torque = 0)

/-- R127, R128: the reference a good departure publishes while VALID, from the state w the arrival's work has left: the target in
force, limited to JOG_MAX while a radius is unknown, approached by at most a_lim. -/
def ReferencePublished (w t : State) : Prop :=
  let p := w.planner
  let q := t.planner
  let unknown := w.supply.known = false ∨ w.takeup.known = false
  let limited := p.transport = .wind ∨ p.transport = .locate ∨ (p.transport = .chase ∧ p.mode = .locate)
  let goal := if unknown ∧ limited then max (-(w.jogMax : Int)) (min w.jogMax q.target) else q.target
  let lim : Int := accelLimit w
  let pinched := p.pinch.code = 1 ∨ p.pinch = .engaged
  if p.transport = .safe ∨ p.transport = .braked ∨ p.transport = .estop then
    q = { p with vRef := 0, aRef := 0, refClass := .hold, capCommand := q.capCommand }
  else
    q = { p with
      target := standingTarget w, vRef := q.vRef, aRef := q.aRef, refClass := q.refClass, leading := q.leading,
      capCommand := q.capCommand } ∧
    q.vRef = (if |goal - p.vRef| ≤ lim then goal else if p.vRef < goal then p.vRef + lim else p.vRef - lim) ∧
    q.aRef = q.vRef - p.vRef ∧
    q.refClass = (match p.transport with
      | .play => .play
      | .wind => .wind
      | .locate => .locate
      | .chase =>
        if p.loc.kind = .internal ∧ p.loc.phase ≠ .none then .locate else if pinched then .play else .hold
      | .halting => if q.vRef = 0 then .hold else p.haltingClass
      | _ => .hold) ∧
    q.leading = if 0 < q.vRef then .takeup else if q.vRef < 0 then .supply else p.leading

/-- R5, R18, R179, R180: the frame tests of a good frame while VALID, from a sound state: the edge states, the inhibits, what
occurs, what is counted and flagged, and what the orders leave. -/
def FrameTested (f : Frame) (s t : State) : Prop :=
  let x := s.protection
  let y := t.protection
  let tape := f.edges.getLsbD 0
  let supply := f.edges.getLsbD 1
  let takeup := f.edges.getLsbD 2
  let out := tape = false ∧ x.tapeOut = false
  let sup := supply = true ∧ x.leaderSup = false
  let tak := takeup = true ∧ x.leaderTak = false
  let runaway (reel : Reel) : Bool := decide (((s.runawayCounts * framesSpanned f s : Nat) : Int) < |reelChange f s reel|)
  let reels := [runaway .supply, runaway .takeup].count true
  let lost := s.ring.stale = false ∧ s.ring.senseLostRaised = false ∧ s.holdLimit < s.ring.lapse + framesMissed f s
  let counted (c : Condition) (n : Nat) : Prop :=
    y.counters.toList.getD c.index 0 =
      (if n = 0 then x.counters.toList.getD c.index 0 else min (x.counters.toList.getD c.index 0 + n) 65535) ∧
    y.flags.getLsbD c.index = (x.flags.getLsbD c.index || decide (0 < n))
  let resting := t.planner.transport = .safe ∨ t.planner.transport = .braked ∨ t.planner.transport = .estop
  let wasResting := s.planner.transport = .safe ∨ s.planner.transport = .braked ∨ s.planner.transport = .estop
  let slack (run : Nat) (c : ReelChannel) : Nat := if 0 < x.grace then 0 else if c.tMeas < s.slackLevel then min (run + 1) 65535 else 0
  y.tapeOut = !tape ∧ y.leaderSup = supply ∧ y.leaderTak = takeup ∧
  y.inhibitForward = (supply && (x.inhibitForward || !x.leaderSup)) ∧
  y.inhibitReverse = (takeup && (x.inhibitReverse || !x.leaderTak)) ∧
  counted .tapeOut (if out then 1 else 0) ∧ counted .leaderSup (if sup then 1 else 0) ∧
  counted .leaderTak (if tak then 1 else 0) ∧ counted .runaway reels ∧ counted .senseLost (if lost then 1 else 0) ∧
  y.overSup = (if s.overLevel < t.supply.tMeas then min (x.overSup + 1) 65535 else 0) ∧
  y.overTak = (if s.overLevel < t.takeup.tMeas then min (x.overTak + 1) 65535 else 0) ∧
  (¬ resting → y.grace = x.grace - 1 ∧ y.slackSup = slack x.slackSup t.supply ∧ y.slackTak = slack x.slackTak t.takeup) ∧
  (out ∨ 0 < reels ∨ lost →
    (t.planner.transport = .estop ∨ (s.planner.transport = .estop ∧ t.planner.transport = .braked)) ∧
      t.planner.active = none ∧ t.planner.queue = [] ∧
      t.planner.hold = false ∧ t.supply.torque = 0 ∧ t.takeup.torque = 0 ∧ t.planner.vRef = 0 ∧
      t.planner.pinch = .released ∧ t.cue.gates = 0) ∧
  (sup ∨ tak → ¬ Moving t ∧ t.planner.active = none ∧ t.cue.gates = 0 ∧ (¬ wasResting → t.planner.queue = []))

/-- R157: an address is crossed forward, or in reverse, by the frame's record. -/
def crossesForward (f : Frame) (s : State) (a : Int) : Bool := decide (sectorAt s s.position.p < a ∧ a ≤ recordEnd f s)
def crossesReverse (f : Frame) (s : State) (a : Int) : Bool := decide (a ≤ sectorAt s s.position.p ∧ recordEnd f s < a)

/-- R157: a gate action's address is shifted by GATE_SHIFT. -/
def firingAddress (s : State) (e : CueEntry) : Int := if e.action.code ≤ 1 then e.address + s.gateShift else e.address

/-- R157: entry i fires on the frame's record. -/
def fires (f : Frame) (s : State) (i : Fin 32) : Bool :=
  let e := s.cue.entries[i]
  let a := firingAddress s e
  e.state == .armed &&
    match e.direction with
    | .fwd => crossesForward f s a
    | .rev => crossesReverse f s a
    | .either => crossesForward f s a || crossesReverse f s a

/-- R160: entry i is the first fired gate entry that names line n. -/
def Decides (f : Frame) (s : State) (n : Fin 8) (i : Fin 32) : Prop :=
  let names (j : Fin 32) : Prop :=
    fires f s j = true ∧ s.cue.entries[j].action.code ≤ 1 ∧ s.cue.entries[j].mask.getLsbD n = true
  names i ∧ ∀ j < i, ¬ names j

/-- R157 to R160: the Cue Unit after a good frame while VALID, and what its entries ask for; w is the state before the frame
departs, whose notices tell of it where the queue has room. -/
def CuesFired (f : Frame) (s w t : State) : Prop :=
  let entry (i : Fin 32) : CueEntry := s.cue.entries[i]
  let switches (i : Fin 32) : Prop :=
    fires f s i = true ∧ (entry i).action = .profile ∧ s.profile.profiles[(entry i).profile].complete = true
  let tells (code : Byte) (data : List Byte) : Prop :=
    w.msg.notices.length < 32 → ∃ m ∈ w.msg.notices, m.take 1 = [code] ∧ m.drop 2 = BitVec.ofNat 8 data.length :: data
  let open' (n : Fin 8) : Prop := t.cue.gates.getLsbD n = true
  let guarded (u : State) : Prop := u.planner.transport ≠ .play ∧ u.planner.transport ≠ .chase
  (∀ i : Fin 32,
    t.cue.entries[i] = if fires f s i ∧ (entry i).oneShot then { entry i with state := .spent } else entry i) ∧
  (∀ i : Fin 32, fires f s i = true →
    tells 0xC6 ([BitVec.ofNat 8 i, if crossesForward f s (firingAddress s (entry i)) then 0 else 1] ++
      leBytes 2 (entry i).label ++ [BitVec.ofNat 8 (entry i).action.code]) ∧
    ((entry i).action = .profile → ¬ switches i →
      tells 0xC7 ([BitVec.ofNat 8 i, BitVec.ofNat 8 (entry i).profile] ++ leBytes 2 (entry i).label)) ∧
    ((entry i).action = .halt → s.planner.queue = [] → ¬ Moving t ∧ t.planner.active = none)) ∧
  t.profile = { s.profile with active := t.profile.active } ∧
  (∀ i : Fin 32, switches i → (∀ j, i < j → ¬ switches j) → t.profile.active = (entry i).profile) ∧
  ((∀ i, ¬ switches i) → t.profile.active = s.profile.active) ∧
  (∀ n : Fin 8, ∀ i : Fin 32, Decides f s n i → (entry i).action = .gateClose → ¬ open' n) ∧
  (∀ n : Fin 8, (∀ i, ¬ Decides f s n i) → open' n → s.cue.gates.getLsbD n = true) ∧
  (∀ n : Fin 8, ∀ i : Fin 32, Decides f s n i → (entry i).action = .gateOpen → s.planner.queue = [] →
    (t.planner.transport = .play → t.position.track ≠ .absent → open' n) ∧
    (guarded s → guarded t → ¬ open' n ∧ (w.msg.notices.length < 32 →
      ∃ m ∈ w.msg.notices, m.take 1 = [0xC8] ∧ (m.drop 2).take 2 = [4, BitVec.ofNat 8 i] ∧
        (m.getD 4 0).getLsbD n = true ∧ m.drop 5 = leBytes 2 (entry i).label))) ∧
  (∀ n : Fin 8, (∀ i, ¬ Decides f s n i) → s.planner.queue = [] → t.planner.transport = .play →
    t.position.track ≠ .absent → (open' n ↔ s.cue.gates.getLsbD n = true))

/-! ## The approach and the advance of a request at a record -/

/-- R136 to R140: the approach step from position p with the reference s last published, where a_lim is aLim and the locate's own
limit is `limit`: the locate record and the target speed it leaves, and whether the locate ends, COMPLETED or UNSETTLED. -/
def approached (s : State) (p : Word32) (aLim limit : Nat) : LocateRecord × Int × Option EndResult :=
  let l := s.planner.loc
  let d := (l.target - p).toInt
  let v := s.planner.vRef.natAbs
  let along (reverse : Bool) (speed : Nat) : Int := if reverse then -(speed : Int) else speed
  let near := |d| ≤ (s.parkWindow : Int)
  let passed := if l.reverse then 0 < d else d < 0
  let toward := if l.reverse then s.planner.vRef < 0 else 0 < s.planner.vRef
  let creeping := min limit s.creepSpeed
  let lim := if 1 ≤ l.overshoots then creeping else limit
  let waits : LocateRecord × Int × Option EndResult := (l, s.planner.target, none)
  let parks : LocateRecord × Int × Option EndResult := ({ l with phase := .park }, 0, none)
  let cruises (reverse : Bool) : LocateRecord × Int × Option EndResult :=
    ({ l with phase := .cruise, reverse := reverse }, along reverse lim, none)
  let brakes : LocateRecord × Int × Option EndResult :=
    ({ l with phase := .decel }, along l.reverse (min lim (max s.creepSpeed (v - aLim))), none)
  let beyond : LocateRecord := { l with overshoots := l.overshoots + 1 }
  let overshoots : LocateRecord × Int × Option EndResult :=
    if 3 ≤ l.overshoots + 1 then (beyond, s.planner.target, some .unsettled)
    else if l.phase = .park then
      ({ beyond with phase := .cruise, reverse := decide (d < 0) }, along (decide (d < 0)) creeping, none)
    else ({ beyond with phase := .recover }, 0, none)
  match l.phase with
  | .none | .wait => waits
  | .cruise =>
    if near then parks else if passed then overshoots
    else if toward ∧ |d| ≤ ((v * v / (512 * aLim) + (v + 255) / 256 : Nat) : Int) then brakes
    else cruises l.reverse
  | .decel => if near then parks else if passed then overshoots else brakes
  | .park =>
    if s.planner.vRef ≠ 0 then waits
    else if near then (l, s.planner.target, some .completed)
    else if passed then overshoots
    else cruises l.reverse
  | .recover => if s.planner.vRef ≠ 0 then waits else if near then parks else cruises (decide (d < 0))

/-- Nothing at a good frame's arrival but the planner's own step can end the active request: the tape is there with no leader
under it, no reel runs away, the lapse is kept, no run or count of either reel stands one short of its limit, and no HALT cue
fires. -/
def Undisturbed (f : Frame) (s : State) : Prop :=
  let x := s.protection
  f.edges.getLsbD 0 = true ∧ f.edges.getLsbD 1 = false ∧ f.edges.getLsbD 2 = false ∧
  (∀ reel, |reelChange f s reel| ≤ ((s.runawayCounts * framesSpanned f s : Nat) : Int)) ∧
  (s.ring.stale = false → s.ring.lapse + framesMissed f s ≤ s.holdLimit) ∧
  (x.overSup + 1 < s.overFrames ∧ x.overTak + 1 < s.overFrames) ∧
  (x.slackSup + 1 < s.slackFrames ∧ x.slackTak + 1 < s.slackFrames) ∧
  (∀ reel, (s.channel reel).mismatch < 2 ∧ (s.channel reel).satRun + 1 < s.satFrames) ∧
  (∀ i : Fin 32, fires f s i = true → s.cue.entries[i].action ≠ .halt)

/-- The active request r goes on. -/
def GoesOn (r : Request) (s t : State) : Prop :=
  t.planner.transport = s.planner.transport ∧ t.planner.active = some r

/-- R119: REQUEST_DONE of r with a result is among the notices of w, where the queue has room. -/
def DoneTold (r : Request) (result : Byte) (w : State) : Prop :=
  w.msg.notices.length < 32 → [0xC4, r.tag, 2, r.kind.code, result] ∈ w.msg.notices

/-- R121, R125: r has ended with a result and the transport halts; w is the state before the frame departs. -/
def EndedHalting (r : Request) (result : Byte) (w t : State) : Prop :=
  t.planner.transport = .halting ∧ t.planner.active = none ∧ t.planner.target = 0 ∧ t.cue.gates = 0 ∧ DoneTold r result w

/-- R136 to R142: what a request locate comes to at an approach step with this a_lim: parked or UNSETTLED, out of frames, or one
frame nearer. -/
def LocateAdvanced (r : Request) (aLim : Nat) (s w t : State) : Prop :=
  let step := approached s t.position.p aLim r.speed
  let left := step.1.remaining - 1
  match step.2.2 with
  | some result =>
    EndedHalting r result.code w t ∧ t.planner.loc = { step.1 with phase := .none } ∧
      t.planner.resume = if result = .completed then none else some r.target
  | none =>
    if left = 0 then
      EndedHalting r 4 w t ∧ t.planner.loc = { step.1 with phase := .none, remaining := 0 } ∧
        t.planner.resume = some r.target
    else
      GoesOn r s t ∧ t.planner.loc = { step.1 with remaining := left } ∧ t.planner.target = step.2.1 ∧
        t.planner.resume = s.planner.resume

/-- R123, R124, R136 to R142: what the active request r comes to at a good frame that finds nothing waiting and nothing else in
its way: w is the state before the frame departs, whose notices tell of an end where the queue has room. The a_lim of an approach
step is that of the profile and the radii before or after this frame's work on them. -/
def RequestAdvanced (r : Request) (f : Frame) (s w t : State) : Prop :=
  let p := t.planner
  match r.kind with
  | .play | .wind =>
    match r.untilAt with
    | none => GoesOn r s t
    | some u =>
      if (if r.reverse then crossesReverse f s u else crossesForward f s u) then EndedHalting r 0 w t else GoesOn r s t
  | .dwell =>
    if s.planner.dwell ≤ 1 then p.transport = .stopped ∧ p.active = none ∧ p.dwell = 0 ∧ DoneTold r 0 w
    else GoesOn r s t ∧ p.dwell = s.planner.dwell - 1
  | .locate =>
    ∃ active ∈ [s.profile.active, t.profile.active], ∃ supply ∈ [s.supply, t.supply], ∃ takeup ∈ [s.takeup, t.takeup],
      LocateAdvanced r
        (accelLimit { s with profile := { s.profile with active := active }, supply := supply, takeup := takeup }) s w t
  | .chase => f.refFlags.getLsbD 0 = true ∨ s.chase.absentRun + 1 < s.refHold → GoesOn r s t
  | .stop => True

/-- R144: an internal locate past WAIT ends at this record, parked or unsettled, and the planner reports it. -/
def ReportDue (s t : State) : Prop :=
  s.planner.loc.kind = .internal ∧ (approached s t.position.p 1 s.windMax).2.2 ≠ none

/-- R166, R167, R168, R172: STANDBY or ACQUIRE at a record with REF valid, a position and no report: the next state, the address
or the speed of the order it gives, if any, whether the state is entered or chosen anew, and the cause of a change. tq is Tq, e
the error, and `runs` says that the reference runs. -/
def standingRule (s : State) (basis : Nat) (tq e : Int) (runs : Bool) :
    ChaseState × Option (ChaseOrder × Int) × Bool × Byte :=
  let c := s.chase
  let returned := 0 < c.absentRun
  let standby : ChaseState × Option (ChaseOrder × Int) × Bool × Byte :=
    (.standby, some (.locate, tq), true, if returned then 10 else 2)
  let choice : ChaseState × Option (ChaseOrder × Int) × Bool × Byte :=
    if runs = false then standby
    else if (s.phaseWindow : Int) < e ∨ e < -(s.acqWindow : Int) then
      (.acquire, some (.locate, tq + s.acqLead), true, if returned then 10 else 3)
    else (.slew, some (.capstan, if e < -(s.phaseWindow : Int) then 0 else basis), true, if returned then 10 else 5)
  if returned then choice
  else if c.state = .acquire then
    if runs = false then standby else if c.locatePending = false then choice else (.acquire, none, false, 0)
  else if runs then choice
  else if c.lastOrder = .hold ∨ (c.locatePending = false ∧ (s.acqWindow : Int) < |e|) ∨
      (c.lastOrder ≠ .hold ∧ c.locatePending = true ∧ (s.acqWindow : Int) < |tq - c.lastTarget|) then
    (.standby, some (.locate, tq), false, 0)
  else (.standby, none, false, 0)

/-- R166 to R168: what such an order leaves of the chase c and of the planner. An order for a locate to where the tape stands at
rest may park at the same arrival, and passes ACQUIRE on to SLEW (R168). -/
def StandingOrdered (c : ChaseUnit) (state : ChaseState) (order : Option (ChaseOrder × Int)) (basis : Nat)
    (s t : State) : Prop :=
  let x := t.chase
  let p := t.planner
  let at' (a : Int) : Word32 := BitVec.ofInt 32 (a * s.sectorLen / 256 + s.readerOffset)
  match order with
  | none =>
    x.state = state ∧ x.lastOrder = c.lastOrder ∧ x.lastTarget = c.lastTarget ∧ x.locatePending = c.locatePending ∧
      x.supplied = c.supplied ∧ p.mode = s.planner.mode ∧ p.loc.target = s.planner.loc.target
  | some (.locate, a) =>
    let inMode : Prop :=
      (s.planner.loc.kind = .internal → s.planner.loc.phase ≠ .none → s.planner.mode = .locate) → p.mode = .locate
    let parks := s.planner.vRef = 0 ∧ |(at' a - t.position.p).toInt| ≤ (s.parkWindow : Int) ∧ p.loc.phase = .none
    x.lastTarget = a ∧ p.loc.kind = .internal ∧ p.loc.target = at' a ∧ p.loc.overshoots = 0 ∧
      ((x.state = state ∧ x.lastOrder = .locate ∧ x.locatePending = true ∧ x.supplied = c.supplied ∧ inMode ∧
          p.loc.phase ≠ .none) ∨
        (state ≠ .acquire ∧ parks ∧ x.state = state ∧ x.lastOrder = .locate ∧ x.locatePending = false ∧
          x.supplied = c.supplied ∧ inMode) ∨
        (state = .acquire ∧ parks ∧ x.state = .slew ∧ x.lastOrder = .capstan ∧ x.locatePending = false ∧
          x.supplied = (if x.e < -(s.phaseWindow : Int) then 0 else basis) ∧ p.mode = .capstan))
  | some (_, speed) =>
    x.state = state ∧ x.lastOrder = .capstan ∧ x.lastTarget = c.lastTarget ∧ x.locatePending = false ∧
      (x.supplied : Int) = speed ∧ p.mode = .capstan ∧ (p.loc.kind = .internal → p.loc.phase = .none)

/-- R163 to R174: the Chase Unit after a good frame while VALID, outside IDLE before and after it, with no request waiting: the
history, vr and the speed basis; without a reference the absent run, HOLDOVER or a hold; with one the error from P after the
record, the next state, the order it gives and the trim law; and, where the queue has room, SYNC_STATE of a change. A locate that
parks at the same record passes ACQUIRE on to SLEW (R168). w is the state before the frame departs. -/
def ChaseRecorded (f : Frame) (s w t : State) : Prop :=
  let c := s.chase
  let x := t.chase
  let valid := f.refFlags.getLsbD 0
  let inRange := match x.vr with | some v => decide (1 ≤ v ∧ v ≤ s.capstanMax) | none => false
  let runs := f.refFlags.getLsbD 1 && (inRange || (x.vr.isNone && decide (0 < x.basis)))
  let e : Int := (f.ref.toNat : Int) + c.offset - sectorAt s t.position.p
  let outside (n : Nat) : Prop := (n : Int) < |e|
  let trim := clampSym s.trimLim (roundDiv (e * s.kph) 256)
  let run := if outside s.lockWindow then 0 else min (c.qualRun + 1) 65535
  let next : ChaseState :=
    match c.state with
    | .slew =>
      if (s.phaseWindow : Int) < e ∨ e < -(s.acqWindow : Int) then .acquire
      else if -(s.phaseWindow : Int) ≤ e then .phase
      else .slew
    | .phase => if outside s.acqWindow then .acquire else if s.lockFrames ≤ run then .locked else .phase
    | .locked | .stable =>
      if outside s.lossWindow then (if outside s.acqWindow then .acquire else .phase)
      else if c.state = .locked ∧ s.stableFrames ≤ run then .stable
      else c.state
    | .holdover => if outside s.acqWindow then .acquire else .phase
    | y => y
  let following := if runs then next else .standby
  let cause : Byte :=
    if c.state = .holdover then 10
    else if runs = false then 2
    else if (c.state = .locked ∨ c.state = .stable) ∧ outside s.lossWindow then 8
    else match following with
      | .acquire => 3
      | .phase => 5
      | .locked => 6
      | _ => 7
  let changes (state : ChaseState) (cause : Byte) : Prop :=
    state ≠ c.state → w.msg.notices.length < 32 →
      [0xCA, c.tag, 5, state.code, c.state.code, cause] ++ leBytes 2 x.lockLosses ∈ w.msg.notices
  let tq : Int := f.ref.toNat + c.offset
  let standing := standingRule s x.basis tq e (f.refFlags.getLsbD 1 && inRange)
  x.tag = c.tag ∧ x.offset = c.offset ∧
  x.history = (if valid = false then []
    else if 1 < framesSpanned f s ∨ rebaselines f s = true then [f.ref] else (f.ref :: c.history).take 9) ∧
  x.vr = (if x.history.length = 9 then
      some (roundDiv ((x.history.getD 0 0 - x.history.getD 8 0).toInt * s.sectorLen) 8)
    else none) ∧
  x.basis = (if inRange = true ∧ c.state ≠ .holdover then (x.vr.getD 0).toNat else c.basis) ∧
  (valid = false →
    x.e = c.e ∧ x.absentRun = min (c.absentRun + 1) 65535 ∧ x.absentRun < s.refHold ∧
    (c.state = .standby ∨ c.state = .acquire → (c.state = .standby ∨ ¬ ReportDue s t) →
      x.state = c.state ∧ x.framesInState = min (c.framesInState + 1) 65535 ∧ x.lastOrder = .hold ∧
      (c.lastOrder ≠ .hold → x.locatePending = false ∧ t.planner.mode = .parked ∧
        (t.planner.loc.kind = .internal → t.planner.loc.phase = .none))) ∧
    (c.state ≠ .standby → c.state ≠ .acquire → x.state = .holdover ∧ changes .holdover 9 ∧
      x.trim = c.trim ∧ x.supplied = c.supplied ∧
      x.framesInState = if c.state = .holdover then min (c.framesInState + 1) 65535 else 0)) ∧
  (valid = true → x.e = e ∧ x.absentRun = 0 ∧
    (c.state = .standby ∨ c.state = .acquire → ¬ ReportDue s t →
      if t.position.track = .absent then
        x.state = c.state ∧ x.framesInState = c.framesInState ∧ x.lastOrder = c.lastOrder ∧
          x.locatePending = c.locatePending ∧ x.lastTarget = c.lastTarget
      else
        StandingOrdered c standing.1 standing.2.1 x.basis s t ∧ changes standing.1 standing.2.2.2 ∧
          x.trim = (if standing.2.2.1 then 0 else c.trim) ∧ x.lockLosses = c.lockLosses ∧
          x.framesInState = if x.state = c.state then min (c.framesInState + 1) 65535 else 0) ∧
    (c.state ≠ .standby → c.state ≠ .acquire →
      (t.position.track = .absent → x.state = c.state ∧ x.trim = c.trim ∧ x.lockLosses = c.lockLosses) ∧
      (t.position.track ≠ .absent →
        (x.state = following ∨ (following = .acquire ∧ x.state = .slew)) ∧ changes following cause ∧
        x.framesInState = (if x.state = following ∧ following = c.state then min (c.framesInState + 1) 65535 else 0) ∧
        x.lockLosses = (if (c.state = .locked ∨ c.state = .stable) ∧ runs = true ∧ outside s.lossWindow then
          min (c.lockLosses + 1) 65535 else c.lockLosses) ∧
        (following = .standby → x.trim = 0 ∧ StandingOrdered c .standby (some (.locate, tq)) x.basis s t) ∧
        (following = .acquire → x.trim = 0 ∧ StandingOrdered c .acquire (some (.locate, tq + s.acqLead)) x.basis s t) ∧
        (following = .slew → x.supplied = 0) ∧
        (following = .phase ∨ following = .locked ∨ following = .stable →
          x.trim = trim ∧ x.trimMax = max c.trimMax trim ∧ x.trimMin = min c.trimMin trim ∧
          x.supplied = (roundDiv (x.basis * (4096 + trim)) 4096).toNat))))

/-! ## Fault conditions -/

/-- R182 steps 1 to 4: the occurrence of condition `code` (1..10) is counted and latched, the record filled where no flag was
set and the transport was other than ESTOP, and FAULT queued ahead of what the order queues. -/
def FaultNoted (s t : State) (c : Condition) (reel : Option Reel) (seq : Byte) (captured : Int) : Prop :=
  t.protection.flags = s.protection.flags ||| BitVec.ofNat 16 (2 ^ (c.code.toNat - 1)) ∧
  (∀ n, t.protection.counters.toList.getD n 0 =
    if n + 1 = c.code.toNat then min (s.protection.counters.toList.getD n 0 + 1) 65535
    else s.protection.counters.toList.getD n 0) ∧
  t.protection.record =
    (if s.protection.flags = 0 ∧ s.planner.transport ≠ .estop then
      some { condition := c, reel := reel, seq := seq, p := s.position.p, transport := s.planner.transport,
             captured := captured }
     else s.protection.record) ∧
  toldFirst s t 0xCB (match s.planner.active with | some r => r.tag | none => 0)
    ([c.code, reelByte reel, s.planner.transport.code] ++ leIntBytes 4 captured)

/-- R112, R181: what the fault halt does, by the transport state that finds it; m is the Message Unit the order finds. In SAFE,
BRAKED and ESTOP it is ignored; in HALTING its queue rule is applied; in STOPPED an active DWELL ends too; a moving transport is
taken into HALTING. -/
def FaultHalted (s : State) (m : MessageUnit) (t : State) : Prop :=
  let flushed : Planner := { s.planner with queue := [], hold := false }
  let still : Prop := t.cue = s.cue ∧ t.chase = s.chase
  match s.planner.transport with
  | .safe | .braked | .estop => t.planner = s.planner ∧ still ∧ t.msg = m
  | .halting => t.planner = flushed ∧ still ∧ t.msg = toldFlush 3 s m
  | .stopped =>
    t.planner = { flushed with active := none, dwell := if s.planner.active = none then s.planner.dwell else 0 } ∧ still ∧
      t.msg = toldEnd 3 s (toldFlush 3 s m)
  | _ =>
    Halted s t ∧ t.planner.queue = [] ∧ t.planner.hold = false ∧
      (∀ r, s.planner.active = some r → r.kind = .locate → t.planner.resume = some r.target) ∧
      t.msg = toldGates 1 s (toldEnd 3 s (toldFlush 3 s m))

end Sys2Proof.Machine
end

