-- ==== Sys2Proof/Certificates/Slice0/Obligations.lean ====
section
/-! DEFINITION. The statements for the provers. Each docstring names the rule or the section of spec/ it formalises; a clause
that rests on a choice of the model names its log entry (notes/assumptions). -/

open Sys2Proof Sys2Proof.Machine

/-- O1. A step with a command at the front of the queue is exec of that command with the rest of the queue. (Rests on:
the row: a block takes the command at the front of its queue; notes/assumptions/1.md.) -/
def Obligations.StepRunsFrontCommand : Prop :=
  ∀ (c : Instr) (rest : List Instr) (s : State), step { s with pending := c :: rest } = exec c { s with pending := rest }

/-- O2. With no command waiting one microsecond passes: a RUNNING silence timer counts it, or expires at SILENCE_US;
otherwise nothing changes. (Rests on: 01_the_transport_ring.md section 1.2; notes/assumptions/1.md.) -/
def Obligations.EmptyQueuePassesMicrosecond : Prop :=
  ∀ s : State, s.pending = [] →
    (s.ring.timer = .running → s.silenceUs ≤ s.ring.elapsed + 1 → step s = exec .silenceExpiry s) ∧
    (s.ring.timer = .running → s.ring.elapsed + 1 < s.silenceUs →
      step s = .next { s with ring := { s.ring with elapsed := s.ring.elapsed + 1 } }) ∧
    (s.ring.timer ≠ .running → step s = .next s)

/-- O3. POWER_ON answers the reset state, with the power-on values the manual states; what stays and what it leaves open
is the model's (logs 1, 6, 8, 28, 32, 33, 36). (Rests on: 01_the_transport_ring.md section 1.5;
02_management_messages.md sections 2.1, 2.5, 2.7; 03_configuration.md sections 3.1, 3.2; 04_tension_profiles.md sections
4.1, 4.2; 05_reel_channels.md section 5.1; 06_tape_position_and_the_timing_track.md section 6.1;
07_motion_requests_and_transport_states.md section 7.1; 08_locate.md section 8.1; 09_cue_table_and_record_gates.md
section 9.1; 10_chase_synchronisation.md section 10.1; 11_protection_and_fault_handling.md section 11.1;
notes/assumptions/32.md.) -/
def Obligations.PowerOnTakesPowerOnValues : Prop :=
  (∀ s : State, exec .powerOn s = .next { State.reset with pending := s.pending, freeDraws := s.freeDraws }) ∧
  let s := State.reset
  (s.ring.baseline = false ∧ s.ring.lapse = 0 ∧ s.ring.senseLostRaised = false ∧ s.ring.timer = .stopped ∧
    s.ring.damaged = 0 ∧ s.ring.missing = 0 ∧ s.ring.repeated = 0 ∧ s.ring.silences = 0) ∧
  (s.msg.assembly = .empty ∧ s.msg.buffer = [] ∧ s.msg.pauseRun = 0 ∧ s.msg.replies = [] ∧ s.msg.notices = [] ∧
    s.msg.sending = none ∧ s.msg.broken = 0 ∧ s.msg.malformed = 0 ∧ s.msg.overruns = 0 ∧ s.msg.noticesLost = 0 ∧
    s.msg.overrunLatch = false) ∧
  (s.config.valid = false ∧ ∀ id, 1 ≤ id → id ≤ 8 →
    s.config.block id = { present := false, contents := List.replicate (blockLength id) 0 }) ∧
  ((∀ p : Fin 4, (∀ b : Fin 32, s.profile.profiles[p].bands[b] =
      { tPlay := 0, tWind := 0, tHold := 0, kacc := 0, accMax := 1 }) ∧
      s.profile.profiles[p].written = 0 ∧ s.profile.profiles[p].complete = false) ∧
    s.profile.active = 0 ∧ s.profile.window = none) ∧
  (∀ reel, s.channel reel =
      { reelAcc := 0, idlerAcc := 0, age := 0, radius := 0, known := false, mismatch := 0, tMeas := 0, target := 0,
        tSet := 0, integrator := 0, torque := 0, saturated := false, satRun := 0 }) ∧
  (s.position.p = 0 ∧ s.position.vMeas = 0 ∧ s.position.track = .absent ∧ s.position.lastWord = none ∧
    s.position.wordTravel = 0 ∧ s.position.anchorRun = 0 ∧ s.position.discRun = 0 ∧ s.position.trackAge = 0 ∧
    s.position.pending = none ∧ s.position.accepted = 0 ∧ s.position.discrepant = 0 ∧ s.position.reanchors = 0 ∧
    s.position.coasted = 0) ∧
  (s.planner.transport = .safe ∧ s.planner.active = none ∧ s.planner.queue = [] ∧ s.planner.hold = false ∧
    s.planner.target = 0 ∧ s.planner.vRef = 0 ∧ s.planner.aRef = 0 ∧ s.planner.refClass = .hold ∧
    s.planner.leading = .takeup ∧ s.planner.haltingClass = .hold ∧ s.planner.pinch = .released ∧
    s.planner.ratio = 4096 ∧ s.planner.dwell = 0 ∧ s.planner.mode = .none ∧ s.planner.loc.kind = .none ∧
    s.planner.loc.phase = .none ∧ s.planner.loc.reverse = false ∧ s.planner.loc.target = 0 ∧ s.planner.loc.remaining = 0 ∧
    s.planner.loc.overshoots = 0 ∧ s.planner.resume = none) ∧
  ((∀ i : Fin 32, s.cue.entries[i] =
      { state := .empty, address := 0, direction := .fwd, action := .gateOpen, mask := 0, profile := 0, oneShot := false,
        label := 0 }) ∧
    s.cue.gates = 0) ∧
  (s.chase.state = .idle ∧ s.chase.tag = 0 ∧ s.chase.offset = 0 ∧ s.chase.history = [] ∧ s.chase.vr = none ∧
    s.chase.basis = 0 ∧ s.chase.supplied = 0 ∧ s.chase.e = 0 ∧ s.chase.trim = 0 ∧ s.chase.trimMax = 0 ∧
    s.chase.trimMin = 0 ∧ s.chase.lastOrder = .none ∧ s.chase.locatePending = false ∧ s.chase.lastTarget = 0 ∧
    s.chase.lockLosses = 0 ∧ s.chase.framesInState = 0 ∧ s.chase.qualRun = 0 ∧ s.chase.absentRun = 0) ∧
  (s.protection.flags = 0 ∧ s.protection.record = none ∧ (∀ n : Fin 10, s.protection.counters[n] = 0) ∧
    s.protection.slackSup = 0 ∧ s.protection.slackTak = 0 ∧ s.protection.overSup = 0 ∧ s.protection.overTak = 0 ∧
    s.protection.grace = 0 ∧ s.protection.tapeOut = false ∧ s.protection.leaderSup = false ∧
    s.protection.leaderTak = false ∧ s.protection.inhibitForward = false ∧ s.protection.inhibitReverse = false ∧
    s.protection.settleRun = 0)

/-- O4. The reset state meets the six invariants that every step keeps. (Rests on: 02_management_messages.md sections
2.1, 2.5; 07_motion_requests_and_transport_states.md sections 7.1, 7.4; 09_cue_table_and_record_gates.md sections 9.1,
9.2; 05_reel_channels.md section 5.1.) -/
def Obligations.ResetMeetsInvariants : Prop :=
  QueuesBounded State.reset ∧ AssemblyKept State.reset ∧ GatesGuarded State.reset ∧ CuesDistinct State.reset ∧
    TransportSound State.reset ∧ TorquesLimited State.reset

/-- O5. Every step keeps the queues within capacity (4 replies, 32 notices, 16 motion records) and the message in
progress consistent. (Rests on: 02_management_messages.md sections 2.1, 2.3, 2.5;
07_motion_requests_and_transport_states.md section 7.4; notes/assumptions/13.md.) -/
def Obligations.StepKeepsQueuesBounded : Prop :=
  ∀ s t : State, step s = .next t → (QueuesBounded s → QueuesBounded t) ∧ (AssemblyKept s → AssemblyKept t)

/-- O6. Every step keeps the record gates fail-safe: a line is open only in PLAY or a LOCKED or STABLE CHASE, with the
track not ABSENT. (Rests on: 09_cue_table_and_record_gates.md sections 9.1, 9.4; 03_configuration.md section 3.6.) -/
def Obligations.StepKeepsGatesGuarded : Prop :=
  ∀ s t : State, GatesGuarded s → step s = .next t → GatesGuarded t

/-- O7. Every step keeps the duplicate rule: no two ARMED cues share an address with overlapping directions. (Rests on:
09_cue_table_and_record_gates.md section 9.2.) -/
def Obligations.StepKeepsCuesDistinct : Prop :=
  ∀ s t : State, CuesDistinct s → step s = .next t → CuesDistinct t

/-- O8. Every step keeps transport, configuration, active request, chase and drive outputs in agreement. (Rests on:
07_motion_requests_and_transport_states.md section 7.1; 03_configuration.md section 3.1; 08_locate.md sections 8.1, 8.4,
8.5; 10_chase_synchronisation.md section 10.1; 05_reel_channels.md sections 5.1, 5.9.) -/
def Obligations.StepKeepsTransportSound : Prop :=
  ∀ s t : State, TransportSound s → step s = .next t → TransportSound t

/-- O9. Every step keeps each torque command within its reel's limit while the configuration is VALID. (Rests on:
05_reel_channels.md sections 5.1, 5.8.) -/
def Obligations.StepKeepsTorquesLimited : Prop :=
  ∀ s t : State, TorquesLimited s → step s = .next t → TorquesLimited t

/-- O10. Every servo frame, damaged ones included, departs as 48 bytes with its CRC recomputed over bytes 0 to 45.
(States: R15.) -/
def Obligations.ServoFrameDepartsSealed : Prop :=
  ∀ (f : Frame) (sched : Schedule) (s : State), f.kind = 0xA5 →
    ∃ t, exec (.servoFrameArrival f sched) s = .next t ∧ t.ring.out.length = 48 ∧
      leNat (t.ring.out.drop 46) = (crc (t.ring.out.take 46)).toNat ∧
      t.ring.out.take 28 = (frameBytes f).take 28 ∧ (t.ring.out.drop 44).take 2 = [0, 0]

/-- O11. STATUS0 and STATUS1 of a departing servo frame show the states their owners hold after the arrival's work.
(States: R14; R34.) -/
def Obligations.DepartureShowsStates : Prop :=
  ∀ (f : Frame) (sched : Schedule) (s : State), f.kind = 0xA5 →
    ∃ t, exec (.servoFrameArrival f sched) s = .next t ∧
      (t.ring.out.getD 41 0).toNat = t.planner.transport.code.toNat + (if t.planner.hold then 16 else 0) +
        (if t.msg.notices = [] then 0 else 32) + (if t.protection.flags = 0 then 0 else 64) +
        (if frameChecks f = false ∨ (s.ring.baseline = true ∧ f.seq = s.ring.lastSeq) then 128 else 0) ∧
      leNat ((t.ring.out.drop 42).take 2) = t.chase.state.code.toNat + 16 * t.position.track.code.toNat +
        (if t.config.valid then 64 else 0) + (if t.msg.overrunLatch then 128 else 0) + 256 * t.profile.active.val +
        (if t.msg.noticesLost = 0 then 0 else 1024)

/-- O12. The drive and gate fields of a departing servo frame show the torques this frame formed, the capstan command,
the pinch, the brakes and the lines. (Rests on: 01_the_transport_ring.md section 1.3; 05_reel_channels.md section 5.9;
05_reel_channels.md sections 5.6, 5.7, 5.8; 04_tension_profiles.md section 4.5;
07_motion_requests_and_transport_states.md sections 7.1, 7.7; notes/assumptions/2.md; notes/assumptions/17.md.) -/
def Obligations.DepartureShowsDriveState : Prop :=
  ∀ (f : Frame) (sched : Schedule) (s : State), f.kind = 0xA5 →
    ∃ t, exec (.servoFrameArrival f sched) s = .next t ∧
      leNat ((t.ring.out.drop 28).take 2) =
        (BitVec.ofInt 16 (if t.senseFlags.getLsbD 3 then -t.supply.torque else t.supply.torque)).toNat ∧
      leNat ((t.ring.out.drop 30).take 2) =
        (BitVec.ofInt 16 (if t.senseFlags.getLsbD 4 then -t.takeup.torque else t.takeup.torque)).toNat ∧
      leNat ((t.ring.out.drop 32).take 2) = (if t.planner.pinch = .engaged then t.planner.vRef.natAbs % 65536 else 0) ∧
      t.ring.out.getD 34 0 = (if t.planner.pinch = .released then 0 else 2) +
        (if t.planner.transport = .safe ∨ t.planner.transport = .braked ∨ t.planner.transport = .estop then 12 else 0) ∧
      t.ring.out.getD 35 0 = t.cue.gates ∧
      (let w := arrivalWork f sched s
       if frameChecks f = true ∧ ¬ (s.ring.baseline = true ∧ f.seq = s.ring.lastSeq) ∧ w.config.valid = true then
         ReferencePublished w t
       else t.planner = { w.planner with capCommand := t.planner.capCommand }) ∧
      (GoodIdleFrame f s → TransportSound s → ∀ reel, TorqueFormed s t reel)

/-- O13. Every departing servo frame carries the next fragment of the message being sent, else the oldest reply, else
the oldest notice, else IDLE. (Rests on: 02_management_messages.md section 2.5; 01_the_transport_ring.md sections 1.1,
1.6.) -/
def Obligations.ArbiterServesRepliesFirst : Prop :=
  ∀ (f : Frame) (sched : Schedule) (s : State), f.kind = 0xA5 →
    let w := arrivalWork f sched s
    (∃ t, exec (.servoFrameArrival f sched) s = .next t ∧ Served w.msg ((t.ring.out.drop 36).take 5) t.msg ∧
      UnchangedBut [.ring, .msg, .planner] w t) ∧
    (frameChecks f = false ∨ (s.ring.baseline = true ∧ f.seq = s.ring.lastSeq) → s.msg.assembly = .empty →
      (s.config.valid = false ∨ s.ring.baseline = false ∨ s.ring.senseLostRaised = true ∨
        s.ring.lapse + 1 ≤ s.holdLimit) →
      w.msg = s.msg)

/-- O14. A frame of another KIND is forwarded with every byte unchanged and touches nothing else. (Rests on:
01_the_transport_ring.md section 1.1; notes/assumptions/30.md.) -/
def Obligations.ForeignFrameForwardedUntouched : Prop :=
  ∀ (f : Frame) (sched : Schedule) (s : State), f.kind ≠ 0xA5 →
    exec (.foreignFrame f) s = .next { s with ring := { s.ring with out := frameBytes f } } ∧
    exec (.servoFrameArrival f sched) s = .next { s with ring := { s.ring with out := frameBytes f } }

/-- O15. A damaged or repeated servo frame is counted and lengthens the lapse, restarts the timer, and reaches no unit.
(Rests on: 01_the_transport_ring.md sections 1.1, 1.2, 1.3; 02_management_messages.md section 2.2.) -/
def Obligations.BadFrameLeavesUnitsAlone : Prop :=
  ∀ (f : Frame) (sched : Schedule) (s : State), f.kind = 0xA5 →
    (frameChecks f = false ∨ (s.ring.baseline = true ∧ f.seq = s.ring.lastSeq)) →
    (s.config.valid = false ∨ s.ring.baseline = false ∨ s.ring.senseLostRaised = true ∨ s.ring.lapse + 1 ≤ s.holdLimit) →
    ∃ t, exec (.servoFrameArrival f sched) s = .next t ∧ UnchangedBut [.ring, .msg, .planner] s t ∧
      t.planner = { s.planner with capCommand := t.planner.capCommand } ∧
      t.ring = { s.ring with
        damaged := if frameChecks f then s.ring.damaged else min (s.ring.damaged + 1) 65535,
        repeated := if frameChecks f then min (s.ring.repeated + 1) 65535 else s.ring.repeated,
        damagedRun := if s.ring.baseline && !frameChecks f then s.ring.damagedRun + 1 else s.ring.damagedRun,
        lapse := if s.ring.baseline then s.ring.lapse + 1 else s.ring.lapse,
        timer := if s.ring.timer = .stopped ∧ s.config.valid = false then .stopped else .running,
        elapsed := if s.ring.timer = .stopped ∧ s.config.valid = false then s.ring.elapsed else 0,
        out := t.ring.out } ∧
      t.msg.assembly = .empty ∧
      t.msg.broken = (if s.msg.assembly = .assembling then min (s.msg.broken + 1) 65535 else s.msg.broken)

/-- O16. A good servo frame becomes the last good frame; while VALID its edges, runaway and lapse are tested and the
cues it crosses fire. (Rests on: 01_the_transport_ring.md sections 1.1, 1.5; 03_configuration.md section 3.1;
09_cue_table_and_record_gates.md sections 9.1, 9.4; 11_protection_and_fault_handling.md sections 11.1, 11.2, 11.3;
notes/assumptions/2.md; notes/assumptions/10.md; notes/assumptions/43.md; notes/assumptions/44.md.) -/
def Obligations.GoodFrameBecomesLastGood : Prop :=
  ∀ (f : Frame) (sched : Schedule) (s : State), f.kind = 0xA5 → frameChecks f = true →
    ¬ (s.ring.baseline = true ∧ f.seq = s.ring.lastSeq) →
    ∃ t, exec (.servoFrameArrival f sched) s = .next t ∧ t.pending = s.pending ∧ t.ring.baseline = true ∧
      t.ring.stale = false ∧ t.ring.lastSeq = f.seq ∧ t.ring.lastSup = f.supTach ∧ t.ring.lastTak = f.takTach ∧
      t.ring.lastIdler = f.idler ∧ t.ring.supArm = min f.supArm.toNat 4095 ∧ t.ring.takArm = min f.takArm.toNat 4095 ∧
      t.ring.trackSector = f.track.toNat % 16777216 ∧ t.ring.trackValid = f.track.getLsbD 31 ∧
      t.ring.tapePresent = f.edges.getLsbD 0 ∧ t.ring.supLeader = f.edges.getLsbD 1 ∧
      t.ring.takLeader = f.edges.getLsbD 2 ∧ t.ring.ref = f.ref ∧ t.ring.refValid = f.refFlags.getLsbD 0 ∧
      t.ring.refRunning = f.refFlags.getLsbD 1 ∧ t.ring.lapse = 0 ∧ t.ring.senseLostRaised = false ∧
      (f.cmdMark = 0 → s.config.valid = true → TransportSound s → GatesGuarded s →
        FrameTested f s t ∧ CuesFired f s (arrivalWork f sched s) t)

/-- O17. A good IDLE frame while NOT_VALID, with no message in assembly, moves the ring's values and the reply field and
nothing else. (Rests on: 03_configuration.md section 3.1; 01_the_transport_ring.md section 1.1;
02_management_messages.md sections 2.1, 2.5.) -/
def Obligations.GoodFrameUnderNotValid : Prop :=
  ∀ (f : Frame) (sched : Schedule) (s : State), f.kind = 0xA5 → frameChecks f = true → f.cmdMark = 0 →
    ¬ (s.ring.baseline = true ∧ f.seq = s.ring.lastSeq) → s.config.valid = false → s.msg.assembly = .empty →
    ∃ t, exec (.servoFrameArrival f sched) s = .next t ∧ UnchangedBut [.ring, .msg, .planner] s t ∧
      t.planner = { s.planner with capCommand := t.planner.capCommand } ∧
      t.ring.damaged = s.ring.damaged ∧ t.ring.repeated = s.ring.repeated ∧ t.ring.silences = s.ring.silences ∧
      t.ring.missing = min (s.ring.missing +
        (if s.ring.baseline then (f.seq - s.ring.lastSeq - 1).toNat - s.ring.damagedRun else 0)) 65535 ∧
      t.msg.broken = s.msg.broken ∧ t.msg.malformed = s.msg.malformed ∧
      Served s.msg ((t.ring.out.drop 36).take 5) t.msg

/-- O18. A frame that takes a lapse past HOLD_LIMIT, or a good frame that ends one beyond it, raises SENSE_LOST, once,
and orders ESTOP. (Rests on: 01_the_transport_ring.md sections 1.1, 1.5; 11_protection_and_fault_handling.md section
11.3; 07_motion_requests_and_transport_states.md section 7.3; notes/assumptions/3.md; notes/assumptions/7.md.) -/
def Obligations.SenseLostStopsTransport : Prop :=
  ∀ (growth : Byte) (goodSeq : Option Byte) (s : State), s.config.valid = true → s.ring.baseline = true →
    s.ring.senseLostRaised = false → (s.ring.stale = true → goodSeq = none) →
    (goodSeq = none → growth ≠ 0) →
    s.holdLimit < s.ring.lapse + growth.toNat → s.planner.transport ≠ .safe → s.planner.transport ≠ .estop →
    ∃ t captured, exec (.senseLost growth goodSeq) s = .next t ∧
      t.ring = { s.ring with lapse := s.ring.lapse + growth.toNat, senseLostRaised := true } ∧
      FaultNoted s t .senseLost none (goodSeq.getD s.ring.lastSeq) captured ∧
      (inRange32 (s.ring.lapse + growth.toNat : Nat) → captured = (s.ring.lapse + growth.toNat : Nat)) ∧
      Stopped s t ∧ t.config = s.config ∧ t.profile = s.profile ∧ t.position = s.position ∧ t.pending = s.pending

/-- O19. A RUNNING silence timer that expires raises RING_SILENCE, orders ESTOP, breaks the message and makes the
baseline stale. (Rests on: 01_the_transport_ring.md section 1.2; 02_management_messages.md section 2.2;
11_protection_and_fault_handling.md section 11.3; notes/assumptions/9.md; notes/assumptions/40.md.) -/
def Obligations.SilenceExpiryStopsTransport : Prop :=
  ∀ s : State, s.ring.timer = .running → s.planner.transport ≠ .safe → s.planner.transport ≠ .estop →
    ∃ t, exec .silenceExpiry s = .next t ∧
      t.ring = { s.ring with
        timer := .expired, elapsed := s.silenceUs, silences := min (s.ring.silences + 1) 65535, stale := true, lapse := 0,
        senseLostRaised := false } ∧
      FaultNoted s t .ringSilence none s.ring.lastSeq (min (s.ring.silences + 1) 65535 : Nat) ∧ Stopped s t ∧
      t.msg.assembly = .empty ∧
      t.msg.broken = (if s.msg.assembly = .assembling then min (s.msg.broken + 1) 65535 else s.msg.broken) ∧
      t.config = s.config ∧ t.profile = s.profile ∧ t.position = s.position ∧ t.pending = s.pending

/-- O20. Each good frame's command field moves the message as its mark says; the fragment that completes it does what
the row of the command does. (Rests on: 02_management_messages.md sections 2.1, 2.2, 2.3, 2.4, 2.5;
01_the_transport_ring.md section 1.6; 04_tension_profiles.md section 4.3; 09_cue_table_and_record_gates.md section 9.3;
notes/assumptions/4.md; notes/assumptions/12.md; notes/assumptions/13.md.) -/
def Obligations.CompletedMessageRunsItsCommand : Prop :=
  ∀ (i : Instr) (code tag mark : Byte) (params padding : List Byte) (data : Quad) (f : Frame) (sched : Schedule) (s : State),
    (commandCarried i = some (code, tag, params) → code ≠ 0x19 → code ≠ 0x31 → params.length ≤ 61 →
      (s.msg.assembly = .assembling →
        s.msg.buffer ++ quadBytes data = [code, tag, BitVec.ofNat 8 params.length] ++ params ++ padding →
        (3 + params.length + 3) / 4 ≤ s.msg.fragments + 1 →
        exec i s = .next (takeFragment 3 data s)) ∧
      (s.msg.assembly = .empty → params.length ≤ 1 →
        quadBytes data = [code, tag, BitVec.ofNat 8 params.length] ++ params ++ padding →
        exec i s = .next (takeFragment 4 data s))) ∧
    (AssemblyKept s → FragmentTaken mark data s (takeFragment mark data s)) ∧
    (f.kind = 0xA5 → frameChecks f = true → ¬ (s.ring.baseline = true ∧ f.seq = s.ring.lastSeq) → AssemblyKept s →
      ∃ u t, exec (.servoFrameArrival f sched) s = .next t ∧ FrameFragment f s u (arrivalWork f sched s) ∧
        t.msg = { (arrivalWork f sched s).msg with
          replies := t.msg.replies, notices := t.msg.notices, sending := t.msg.sending })

/-- O21. A command whose message completes against a full reply queue is discarded unexecuted, counted and latched.
(Rests on: 02_management_messages.md sections 2.4, 2.5; notes/assumptions/4.md.) -/
def Obligations.FullReplyQueueDiscardsCommand : Prop :=
  ∀ (i : Instr) (code tag : Byte) (params : List Byte) (s : State), commandCarried i = some (code, tag, params) →
    code ≠ 0x19 → code ≠ 0x31 → params.length ≤ 61 → 4 ≤ s.msg.replies.length →
    exec i s = .next { s with msg := { s.msg with
      assembly := .empty, buffer := [], fragments := 0, pauseRun := 0, handed := 0,
      overruns := min (s.msg.overruns + 1) 65535, overrunLatch := true } }

/-- O22. The 64th IDLE frame breaks a message in assembly and answers it BROKEN, and ends a discarding in silence.
(Rests on: 02_management_messages.md sections 2.1, 2.2, 2.5; notes/assumptions/3.md.) -/
def Obligations.PauseTimeoutBreaksMessage : Prop :=
  ∀ s : State, 63 ≤ s.msg.pauseRun →
    let code := s.msg.buffer.getD 0 0
    let written : Byte :=
      if s.msg.handed = 0 then 0 else if code = 0x19 then BitVec.ofNat 8 s.profile.count
      else if code = 0x31 then BitVec.ofNat 8 s.cue.count else 0
    let emptied : MessageUnit :=
      { s.msg with assembly := .empty, buffer := [], fragments := 0, pauseRun := 0, handed := 0 }
    (s.msg.assembly = .assembling → s.msg.replies.length < 4 →
      exec .pauseTimeout s = .next { s with msg := { emptied with
        broken := min (s.msg.broken + 1) 65535,
        replies := s.msg.replies ++
          [[if code.toNat ≤ 0x3F then code + 0x80 else 0xBF, s.msg.buffer.getD 1 0, 2, 0x1D, written]] } }) ∧
    (s.msg.assembly = .assembling → 4 ≤ s.msg.replies.length →
      exec .pauseTimeout s = .next { s with msg := { emptied with
        broken := min (s.msg.broken + 1) 65535, overruns := min (s.msg.overruns + 1) 65535, overrunLatch := true } }) ∧
    (s.msg.assembly = .discarding → exec .pauseTimeout s = .next { s with msg := emptied })

/-- O23. A command with an unassigned CODE is answered UNKNOWN_COMMAND and changes nothing else. (States: R30.) -/
def Obligations.UnknownCommandAnswered : Prop :=
  ∀ (code tag : Byte) (params : List Byte) (s : State), codeAssigned code = false → params.length ≤ 61 → Ready s →
    exec (.unknownCommand code tag params) s =
      .next (refusedWith s (if code.toNat ≤ 0x3F then code else 0x3F) tag 0x10 [])

/-- O24. READ_RING reports the ring counters, the overrun latch and the baseline, clears the latch, and with its option
the counters. (Rests on: 01_the_transport_ring.md section 1.4; notes/assumptions/11.md.) -/
def Obligations.ReadRingReportsCounters : Prop :=
  ∀ (tag : Byte) (params : List Byte) (s : State), Ready s →
    exec (.readRing tag params) s = .next (match params with
      | [option] =>
        { s with
          ring := if option.getLsbD 0 then { s.ring with damaged := 0, missing := 0, repeated := 0, silences := 0 }
            else s.ring,
          msg := answered { s.msg with overrunLatch := false } 0x01 tag 0x00
            (leBytes 2 s.ring.damaged ++ leBytes 2 s.ring.missing ++ leBytes 2 s.ring.repeated ++
              leBytes 2 s.ring.silences ++ [if s.msg.overrunLatch then 1 else 0, if s.ring.afterSilence then 2 else 1,
                s.ring.lastSeq]) }
      | _ => refusedWith s 0x01 tag 0x11 [])

/-- O25. IDENTIFY reports the part code, revision, groups and capacities. (States: R36.) -/
def Obligations.IdentifyReportsPart : Prop :=
  ∀ (tag : Byte) (params : List Byte) (s : State), Ready s →
    exec (.identify tag params) s = .next
      (if params = [] then { s with msg := answered s.msg 0x08 tag 0x00 (leBytes 2 3416 ++ [1, 0xFF, 16, 32, 4, 32, 8]) }
       else refusedWith s 0x08 tag 0x11 [])

/-- O26. READ_MESSAGING reports the message counters and queue fills, and with its option zeroes the counters. (Rests
on: 02_management_messages.md section 2.7.) -/
def Obligations.ReadMessagingReportsCounters : Prop :=
  ∀ (tag : Byte) (params : List Byte) (s : State), Ready s →
    exec (.readMessaging tag params) s = .next (match params with
      | [option] =>
        { s with
          msg := answered
            (if option.getLsbD 0 then { s.msg with broken := 0, malformed := 0, overruns := 0, noticesLost := 0 }
             else s.msg) 0x09 tag 0x00
            (leBytes 2 s.msg.broken ++ leBytes 2 s.msg.malformed ++ leBytes 2 s.msg.overruns ++
              leBytes 2 s.msg.noticesLost ++
              [BitVec.ofNat 8 s.msg.replies.length, BitVec.ofNat 8 s.msg.notices.length]) }
      | _ => refusedWith s 0x09 tag 0x11 [])

/-- O27. RESTART in SAFE, BRAKED or STOPPED empties the queues and gives every unit its restart values, without a
notice. (Rests on: 02_management_messages.md section 2.7; 05_reel_channels.md section 5.1;
06_tape_position_and_the_timing_track.md section 6.1; 07_motion_requests_and_transport_states.md section 7.1;
11_protection_and_fault_handling.md section 11.1; notes/assumptions/33.md; notes/assumptions/36.md.) -/
def Obligations.RestartRestoresUnits : Prop :=
  ∀ (tag : Byte) (params : List Byte) (s : State), Ready s →
    let restarted (c : ReelChannel) : ReelChannel :=
      { c with reelAcc := 0, idlerAcc := 0, age := 0, radius := s.rStart, known := false, mismatch := 0, target := 0,
               tSet := 0, integrator := 0, torque := 0, saturated := false, satRun := 0 }
    exec (.restart tag params) s = .next
      (if params ≠ [] then refusedWith s 0x0F tag 0x11 []
       else if s.planner.transport = .safe ∨ s.planner.transport = .braked ∨ s.planner.transport = .stopped then
        { s with
          msg := answered { s.msg with replies := [], notices := [] } 0x0F tag 0x00 [],
          planner := { State.reset.planner with
            transport := if s.config.valid then .braked else .safe, capCommand := s.planner.capCommand },
          supply := restarted s.supply, takeup := restarted s.takeup,
          position := { s.position with
            track := .absent, lastWord := none, wordTravel := 0, anchorRun := 0, anchorWord := 0, discRun := 0,
            discWord := 0, trackAge := 0, pending := none },
          cue := { s.cue with gates := 0 }, chase := State.reset.chase, protection := State.reset.protection }
       else refusedWith s 0x0F tag 0x13 [])

/-- O28. CONFIG_WRITE makes its six checks in order and stores an accepted block. (States: R44.) -/
def Obligations.ConfigWriteStoresBlock : Prop :=
  ∀ (tag : Byte) (params : List Byte) (s : State), Ready s → params.length ≤ 61 →
    let id := params.getD 0 0
    let contents := (params.drop 1).take (params.length - 3)
    exec (.configWrite tag params) s = .next
      (if params = [] then refusedWith s 0x10 tag 0x11 []
       else if id.toNat < 1 ∨ 8 < id.toNat then refusedWith s 0x10 tag 0x12 [id, 0]
       else if params.length ≠ 3 + blockLength id.toNat then refusedWith s 0x10 tag 0x11 []
       else if s.config.valid then refusedWith s 0x10 tag 0x16 []
       else if leNat (params.drop (params.length - 2)) ≠ (crc (id :: contents)).toNat then
        refusedWith s 0x10 tag 0x17 []
       else match badField id.toNat contents with
        | some field => refusedWith s 0x10 tag 0x12 [id, BitVec.ofNat 8 field]
        | none =>
          { s with
            config := s.config.setBlock id.toNat { present := true, contents := contents },
            msg := answered s.msg 0x10 tag 0x00 [id] })

/-- O29. CONFIG_COMMIT whose nine checks pass makes the configuration VALID and the transport BRAKED. (Rests on:
03_configuration.md section 3.5; 05_reel_channels.md section 5.1; 06_tape_position_and_the_timing_track.md section 6.6;
11_protection_and_fault_handling.md section 11.1.) -/
def Obligations.CommitEntersBraked : Prop :=
  ∀ (tag : Byte) (s : State), Ready s →
    let started (c : ReelChannel) : ReelChannel :=
      { c with reelAcc := 0, idlerAcc := 0, age := 0, radius := s.rStart, known := false, mismatch := 0, target := 0,
               tSet := 0, integrator := 0, torque := 0, saturated := false, satRun := 0 }
    (∀ params, params ≠ [] → exec (.configCommit tag params) s = .next (refusedWith s 0x11 tag 0x11 [])) ∧
    (s.config.valid = true → exec (.configCommit tag []) s = .next (refusedWith s 0x11 tag 0x13 [])) ∧
    (s.config.valid = false → CommitChecksPass s → exec (.configCommit tag []) s = .next
      { s with
        config := { s.config with valid := true },
        planner := { s.planner with
          transport := .braked, target := 0, vRef := 0, aRef := 0, refClass := .hold, dwell := 0, pinch := .released,
          mode := .none, capstanWaits := false, loc := { s.planner.loc with phase := .none } },
        supply := started s.supply, takeup := started s.takeup,
        position := match s.position.pending with
          | none => s.position
          | some address =>
            { s.position with p := countOf s address.toNat, pending := none, track := .coasting },
        cue := { s.cue with gates := 0 },
        protection := { s.protection with
          slackSup := 0, slackTak := 0, overSup := 0, overTak := 0, grace := 0, settleRun := 0, tapeOut := false,
          leaderSup := false, leaderTak := false },
        msg := answered (told s.msg 0xC0 0 [1, 1]) 0x11 tag 0x00 [] })

/-- O30. CHECK_FAILED names the first of the nine commit checks that fails, with its detail byte. (States: R46.) -/
def Obligations.CommitChecksOrdered : Prop :=
  ∀ (tag : Byte) (s : State), Ready s → s.config.valid = false →
    let failed (n d : Byte) : Prop := exec (.configCommit tag []) s = .next (refusedWith s 0x11 tag 0x1E [n, d])
    let present (id : Nat) : Bool := (s.config.block id).present
    let rises (reel : Reel) : Prop := ∀ i < 16, s.curve reel i ≤ s.curve reel (i + 1)
    let absent (id : Fin 9) : Prop := 1 ≤ id.val ∧ present id = false
    (∀ id, absent id → (∀ j, absent j → id ≤ j) → failed 1 (BitVec.ofNat 8 id)) ∧
    ((∀ id, ¬ absent id) →
      if ¬ (s.rHub < s.rStart ∧ s.rStart ≤ s.rMax) then failed 2 0
      else if s.rHub + 32 * s.bandW < s.rMax then failed 3 0
      else if ¬ rises .supply then failed 4 1
      else if ¬ rises .takeup then failed 4 2
      else if ¬ (s.holdLow < s.holdHigh ∧ s.holdHigh ≤ 16) then failed 5 0
      else if ¬ (s.creepSpeed ≤ s.jogMax ∧ s.jogMax ≤ s.windMax) then failed 6 0
      else if ¬ (s.playSpeed false ≤ s.capstanMax ∧ s.playSpeed true ≤ s.capstanMax) then failed 7 0
      else if ¬ (s.lockWindow < s.lossWindow ∧ s.lossWindow ≤ s.phaseWindow ∧ s.phaseWindow < s.acqWindow) then
        failed 8 0
      else if s.profile.profiles[s.profile.active].complete = false then failed 9 (BitVec.ofNat 8 s.profile.active)
      else ∃ t, exec (.configCommit tag []) s = .next t ∧ t.config.valid = true)

/-- O31. CONFIG_OPEN in BRAKED or STOPPED makes the configuration NOT_VALID and the transport SAFE; elsewhere it is
refused. (Rests on: 03_configuration.md section 3.6; 06_tape_position_and_the_timing_track.md section 6.1;
07_motion_requests_and_transport_states.md sections 7.1, 7.4; 10_chase_synchronisation.md section 10.1;
11_protection_and_fault_handling.md section 11.1; notes/assumptions/36.md; notes/assumptions/40.md.) -/
def Obligations.OpenEntersSafe : Prop :=
  ∀ (tag : Byte) (params : List Byte) (s : State), Ready s → RequestSuitsTransport s →
    let done := match s.planner.active with
      | some r => told s.msg 0xC4 r.tag [6, 2]
      | none => s.msg
    let flushed :=
      if s.planner.queue = [] then done else told done 0xC5 0 [BitVec.ofNat 8 s.planner.queue.length, 4]
    exec (.configOpen tag params) s = .next
      (if params ≠ [] then refusedWith s 0x12 tag 0x11 []
       else if s.planner.transport = .braked ∨ s.planner.transport = .stopped then
        { s with
          config := { s.config with valid := false },
          planner := { s.planner with
            transport := .safe, active := none, queue := [], hold := false, target := 0, vRef := 0, aRef := 0,
            refClass := .hold, dwell := 0, pinch := .released, mode := .none, capstanWaits := false,
            loc := { s.planner.loc with phase := .none } },
          supply := channelAtRest s.supply, takeup := channelAtRest s.takeup,
          position := { s.position with
            track := .absent, lastWord := none, wordTravel := 0, anchorRun := 0, anchorWord := 0, discRun := 0,
            discWord := 0, trackAge := 0, vMeas := 0, pending := none },
          cue := { s.cue with gates := 0 },
          chase := { s.chase with history := [], vr := none, basis := 0 },
          protection := { s.protection with
            slackSup := 0, slackTak := 0, overSup := 0, overTak := 0, grace := 0, settleRun := 0 },
          ring := { s.ring with timer := .stopped, elapsed := 0 },
          msg := answered (told flushed 0xC0 0 [0, 2]) 0x12 tag 0x00 [] }
       else refusedWith s 0x12 tag 0x13 [])

/-- O32. CONFIG_CLEAR marks all eight blocks absent and zero while NOT_VALID; CONFIG_READ returns a block's presence,
contents and CRC. (States: R49; R50.) -/
def Obligations.ConfigClearAndRead : Prop :=
  ∀ (tag : Byte) (params : List Byte) (s : State), Ready s →
    let absent (n : Nat) : Block := { present := false, contents := List.replicate n 0 }
    exec (.configClear tag params) s = .next
      (if params ≠ [] then refusedWith s 0x13 tag 0x11 []
       else if s.config.valid then refusedWith s 0x13 tag 0x16 []
       else
        { s with
          config := { valid := false, geometry := absent 21, track := absent 10, speeds := absent 16, loops := absent 16,
                      protect := absent 19, curves := absent 51, motion := absent 12, chase := absent 30 },
          msg := answered s.msg 0x13 tag 0x00 [] }) ∧
    exec (.configRead tag params) s = .next (match params with
      | [id] =>
        if id.toNat < 1 ∨ 8 < id.toNat then refusedWith s 0x14 tag 0x12 []
        else
          let b := s.config.block id.toNat
          let contents := if b.present then b.contents else List.replicate (blockLength id.toNat) 0
          { s with
            msg := answered s.msg 0x14 tag 0x00
              ([id, if b.present then 1 else 0] ++ contents ++ leBytes 2 (crc (id :: contents)).toNat) }
      | _ => refusedWith s 0x14 tag 0x11 [])

/-- O33. PROFILE_WINDOW makes its four checks in order and sets the load window with the write counter at the first
band. (States: R54.) -/
def Obligations.ProfileWindowSetsWindow : Prop :=
  ∀ (tag : Byte) (params : List Byte) (s : State), Ready s →
    exec (.profileWindow tag params) s = .next (match params with
      | [p, first, last] =>
        if 3 < p.toNat ∨ 31 < first.toNat ∨ 31 < last.toNat then refusedWith s 0x18 tag 0x12 []
        else if last.toNat < first.toNat then refusedWith s 0x18 tag 0x12 []
        else if p.toNat = s.profile.active.val ∧
            s.planner.transport ∈ [Transport.play, .wind, .locate, .chase, .halting] then
          refusedWith s 0x18 tag 0x16 []
        else
          { s with
            profile := { s.profile with
              window := some { profile := Fin.ofNat 4 p.toNat, first := Fin.ofNat 32 first.toNat,
                               last := Fin.ofNat 32 last.toNat, counter := Fin.ofNat 32 first.toNat } },
            msg := answered s.msg 0x18 tag 0x00 [] }
      | _ => refusedWith s 0x18 tag 0x11 [])

/-- O34. PROFILE_DATA writes its entries, clamped, at the write counter, one after another, and reports the window.
(Rests on: 04_tension_profiles.md section 4.3; 02_management_messages.md section 2.3; notes/assumptions/5.md.) -/
def Obligations.ProfileDataWritesEntries : Prop :=
  ∀ (tag : Byte) (params : List Byte) (s : State), Ready s → params.length ≤ 61 →
    exec (.profileData tag params) s = .next
      (if params.length = 0 ∨ params.length % 9 ≠ 0 then refusedWith s 0x19 tag 0x11 []
       else match s.profile.window with
        | none => refusedWith s 0x19 tag 0x18 []
        | some w =>
          if w.profile = s.profile.active ∧ s.planner.transport ∈ [Transport.play, .wind, .locate, .chase, .halting] then
            refusedWith s 0x19 tag 0x16 []
          else
            let entries := (List.range (params.length / 9)).map fun i => bandOf ((params.drop (9 * i)).take 9)
            let written := entries.foldl bandWritten (s.profile.profiles[w.profile], w)
            let clamped := entries.any fun b => b != withinBand b
            { s with
              profile := { s.profile with
                profiles := s.profile.profiles.set w.profile written.1, window := some written.2,
                count := params.length / 9, result := if clamped then .clamped else .ok },
              msg := answered s.msg 0x19 tag (if clamped then 0x01 else 0x00)
                [BitVec.ofNat 8 w.profile, BitVec.ofNat 8 (params.length / 9), BitVec.ofNat 8 written.2.counter,
                  if written.1.complete then 1 else 0] })

/-- O35. PROFILE_SELECT makes a complete profile active; PROFILE_CLEAR empties a profile and drops a window on it.
(Rests on: 04_tension_profiles.md section 4.4.) -/
def Obligations.ProfileSelectAndClear : Prop :=
  ∀ (tag : Byte) (params : List Byte) (s : State), Ready s →
    exec (.profileSelect tag params) s = .next (match params with
      | [p] =>
        if 3 < p.toNat then refusedWith s 0x1A tag 0x12 []
        else if s.profile.profiles[Fin.ofNat 4 p.toNat].complete = false then refusedWith s 0x1A tag 0x19 []
        else { s with profile := { s.profile with active := Fin.ofNat 4 p.toNat }, msg := answered s.msg 0x1A tag 0x00 [p] }
      | _ => refusedWith s 0x1A tag 0x11 []) ∧
    exec (.profileClear tag params) s = .next (match params with
      | [p] =>
        if 3 < p.toNat then refusedWith s 0x1B tag 0x12 []
        else if p.toNat = s.profile.active.val ∧ s.config.valid = true then refusedWith s 0x1B tag 0x16 []
        else
          { s with
            profile := { s.profile with
              profiles := s.profile.profiles.set (Fin.ofNat 4 p.toNat)
                { bands := Vector.replicate 32 { tPlay := 0, tWind := 0, tHold := 0, kacc := 0, accMax := 1 },
                  written := 0, complete := false },
              window := s.profile.window.filter fun w => w.profile.val != p.toNat },
            msg := answered s.msg 0x1B tag 0x00 [] }
      | _ => refusedWith s 0x1B tag 0x11 [])

/-- O36. PROFILE_READ reports a band entry, the profile's flags and the window, and changes nothing. (States: R61.) -/
def Obligations.ProfileReadReportsEntry : Prop :=
  ∀ (tag : Byte) (params : List Byte) (s : State), Ready s →
    exec (.profileRead tag params) s = .next (match params with
      | [p, band] =>
        if 3 < p.toNat ∨ 31 < band.toNat then refusedWith s 0x1C tag 0x12 []
        else
          let x := s.profile.profiles[Fin.ofNat 4 p.toNat]
          let b := x.bands[Fin.ofNat 32 band.toNat]
          { s with
            msg := answered s.msg 0x1C tag 0x00
              ([p, band, if x.written.getLsbD band.toNat then 1 else 0, if x.complete then 1 else 0,
                  BitVec.ofNat 8 s.profile.active] ++
                leBytes 2 b.tPlay ++ leBytes 2 b.tWind ++ leBytes 2 b.tHold ++ leBytes 2 b.kacc ++ leBytes 1 b.accMax ++
                (match s.profile.window with
                  | none => [0xFF, 0, 0, 0]
                  | some w => [BitVec.ofNat 8 w.profile, BitVec.ofNat 8 w.first, BitVec.ofNat 8 w.last,
                      BitVec.ofNat 8 w.counter]) ++
                leBytes 4 x.written.toNat) }
      | _ => refusedWith s 0x1C tag 0x11 [])

/-- O37. READ_REEL, READ_POSITION and READ_TRANSPORT report what the units hold, and change at most the counters a clear
option names. (States: R93; R109; R132.) -/
def Obligations.ReadingCommandsReportState : Prop :=
  ∀ (tag : Byte) (params : List Byte) (s : State), Ready s →
    let flag (b : Bool) : Byte := if b then 1 else 0
    let reel (code : Byte) (c : ReelChannel) : List Byte :=
      [code] ++ leBytes 2 c.radius ++ [flag c.known] ++ leBytes 2 c.tMeas ++ leBytes 2 c.target ++ leBytes 2 c.tSet ++
        leIntBytes 4 c.integrator ++ leIntBytes 2 c.torque ++ [flag c.saturated] ++ leBytes 2 c.satRun ++
        leBytes 2 c.mismatch ++ leIntBytes 4 c.reelAcc ++ leIntBytes 4 c.idlerAcc ++ leBytes 2 c.age
    let x := s.position
    let p := s.planner
    let sector : Int := if s.config.valid then (x.p.toInt - s.readerOffset) * 256 / (s.sectorLen : Int) else 0
    exec (.readReel tag params) s = .next (match params with
      | [which] =>
        if which = 0 then { s with msg := answered s.msg 0x20 tag 0x00 (reel 0 s.supply) }
        else if which = 1 then { s with msg := answered s.msg 0x20 tag 0x00 (reel 1 s.takeup) }
        else refusedWith s 0x20 tag 0x12 []
      | _ => refusedWith s 0x20 tag 0x11 []) ∧
    exec (.readPosition tag params) s = .next (match params with
      | [option] =>
        { s with
          position := if option.getLsbD 0 then { x with accepted := 0, discrepant := 0, reanchors := 0, coasted := 0 }
            else x,
          msg := answered s.msg 0x22 tag 0x00
            (leBytes 4 x.p.toNat ++ leIntBytes 5 sector ++ leIntBytes 4 x.vMeas ++
              [x.track.code, BitVec.ofNat 8 x.anchorRun, BitVec.ofNat 8 x.discRun] ++ leBytes 2 x.trackAge ++
              leBytes 2 x.accepted ++ leBytes 2 x.discrepant ++ leBytes 2 x.reanchors ++ leBytes 2 x.coasted ++
              (match x.pending with
                | none => [0, 0, 0, 0, 0]
                | some a => 1 :: leBytes 4 a.toNat)) }
      | _ => refusedWith s 0x22 tag 0x11 []) ∧
    exec (.readTransport tag params) s = .next
      (if params ≠ [] then refusedWith s 0x2D tag 0x11 []
       else
        { s with
          msg := answered s.msg 0x2D tag 0x00
            ([p.transport.code] ++
              (match p.active with
                | some r => [r.kind.code, r.tag, errorByte r.errors]
                | none => [0, 0, 0]) ++
              [BitVec.ofNat 8 p.queue.length, flag p.hold] ++ leIntBytes 4 p.vRef ++ leIntBytes 4 p.aRef ++
              [p.refClass.code, reelCode p.leading] ++ leIntBytes 4 p.target ++ leBytes 2 p.capCommand ++
              [p.pinch.code] ++ leBytes 2 p.pinch.count ++ leBytes 2 p.ratio ++ leBytes 2 p.dwell ++
              [p.loc.kind.code, p.loc.phase.code + (if p.loc.reverse then 0x80 else 0)] ++
              leBytes 4 p.loc.target.toNat ++ leBytes 4 p.loc.remaining ++ [BitVec.ofNat 8 p.loc.overshoots] ++
              (match p.resume with
                | none => [0, 0, 0, 0, 0]
                | some a => 1 :: leBytes 4 a)) })

/-- O38. SET_POSITION sets P at rest, or keeps the address as pending in SAFE, with the track COASTING and its runs
cleared. (Rests on: 06_tape_position_and_the_timing_track.md sections 6.1, 6.3, 6.6; notes/assumptions/36.md.) -/
def Obligations.SetPositionDeclaresAddress : Prop :=
  ∀ (tag : Byte) (params : List Byte) (s : State), Ready s →
    let t := leNat params
    let p : Word32 := BitVec.ofInt 32 ((t * s.sectorLen / 256 : Nat) + s.readerOffset)
    let declared : PositionUnit := { s.position with
      track := .coasting, lastWord := none, wordTravel := 0, anchorRun := 0, anchorWord := 0, discRun := 0, discWord := 0,
      trackAge := 0 }
    exec (.setPosition tag params) s = .next
      (if params.length ≠ 4 then refusedWith s 0x21 tag 0x11 []
       else match s.planner.transport with
        | .safe =>
          { s with
            position := { declared with pending := some (BitVec.ofNat 32 t) },
            msg := answered s.msg 0x21 tag 0x00 (1 :: leBytes 4 s.position.p.toNat) }
        | .braked | .stopped =>
          { s with
            position := { declared with p := p, pending := none },
            msg := answered s.msg 0x21 tag 0x00 (0 :: leBytes 4 p.toNat) }
        | _ => refusedWith s 0x21 tag 0x13 [])

/-- O39. QUEUE_MOTION makes its five checks in order and appends the record at the tail, testing HOLD. (Rests on:
07_motion_requests_and_transport_states.md section 7.4; 01_the_transport_ring.md section 1.6.) -/
def Obligations.QueueMotionAppends : Prop :=
  ∀ (tag : Byte) (params : List Byte) (s : State), Ready s →
    let flags := params.getD 2 0
    let speed := leNat ((params.drop 3).take 2)
    let fill := s.planner.queue.length + 1
    (params.length ≠ 9 → exec (.queueMotion tag params) s = .next (refusedWith s 0x28 tag 0x11 [])) ∧
    (params.length = 9 → s.planner.transport = .safe →
      exec (.queueMotion tag params) s = .next (refusedWith s 0x28 tag 0x15 [])) ∧
    (params.length = 9 → s.planner.transport ≠ .safe →
      match requestKindOf (params.getD 0 0).toNat with
      | none => exec (.queueMotion tag params) s = .next (refusedWith s 0x28 tag 0x12 [])
      | some kind =>
        if (kind = .dwell ∧ speed = 0) ∨ (kind = .wind ∧ speed = 0) ∨ (kind = .locate ∧ flags.getLsbD 3 = true ∧ speed = 0)
        then exec (.queueMotion tag params) s = .next (refusedWith s 0x28 tag 0x12 [])
        else if 16 ≤ s.planner.queue.length then
          exec (.queueMotion tag params) s = .next (refusedWith s 0x28 tag 0x14 [])
        else s.planner.transport ≠ .stopped ∨ s.planner.active ≠ none →
          let r := buildRequest kind params s
          exec (.queueMotion tag params) s = .next
            { s with
              planner := { s.planner with
                queue := s.planner.queue ++ [r], hold := if s.holdHigh ≤ fill then true else s.planner.hold },
              msg := answered s.msg 0x28 tag (if r.errors.speedClamped || r.errors.offsetClamped then 0x01 else 0x00)
                [params.getD 1 0, BitVec.ofNat 8 fill, errorByte r.errors] })

/-- O40. A queued request holds the record's values brought into range, with the error tags of what was changed. (Rests
on: 07_motion_requests_and_transport_states.md section 7.4; 01_the_transport_ring.md section 1.6;
06_tape_position_and_the_timing_track.md section 6.3.) -/
def Obligations.QueuedRequestClamped : Prop :=
  ∀ (kind : RequestKind) (params : List Byte) (s : State), params.length = 9 → 0 < s.sectorLen →
    let r := buildRequest kind params s
    let flags := params.getD 2 0
    let speed := leNat ((params.drop 3).take 2)
    let address := leNat (params.drop 5)
    let offset := (BitVec.ofNat 32 address).toInt
    let here : Int := (s.position.p.toInt - s.readerOffset) * 256 / (s.sectorLen : Int)
    let behind (reverse : Bool) : Prop := if reverse then here < address else (address : Int) ≤ here
    let untilRule (reverse : Bool) : Prop :=
      (flags.getLsbD 2 = false → r.untilAt = none ∧ r.errors.untilBehind = false) ∧
      (flags.getLsbD 2 = true → behind reverse → r.untilAt = none ∧ r.errors.untilBehind = true) ∧
      (flags.getLsbD 2 = true → ¬ behind reverse → r.untilAt = some address ∧ r.errors.untilBehind = false)
    r.kind = kind ∧ r.tag = params.getD 1 0 ∧
    match kind with
    | .play => r.speedB = flags.getLsbD 0 ∧ r.reverse = false ∧ untilRule false ∧ r.errors.speedClamped = false ∧
        r.errors.offsetClamped = false
    | .wind => r.reverse = flags.getLsbD 1 ∧ r.speed = min speed s.windMax ∧
        r.errors.speedClamped = decide (s.windMax < speed) ∧ untilRule (flags.getLsbD 1) ∧ r.errors.offsetClamped = false
    | .locate => r.target = address ∧ r.speed = (if flags.getLsbD 3 then min speed s.windMax else s.windMax) ∧
        r.errors = { speedClamped := flags.getLsbD 3 && decide (s.windMax < speed), untilBehind := false,
                     offsetClamped := false }
    | .chase => r.offset = max (-8388608) (min 8388608 offset) ∧
        r.errors = { speedClamped := false, untilBehind := false,
                     offsetClamped := decide (offset < -8388608 ∨ 8388608 < offset) }
    | .stop => r.errors = { speedClamped := false, untilBehind := false, offsetClamped := false }
    | .dwell => r.frames = speed ∧ r.errors = { speedClamped := false, untilBehind := false, offsetClamped := false }

/-- O41. A request queued in STOPPED with nothing waiting becomes active at once and starts by its kind, or ends at a
failed check. (Rests on: 07_motion_requests_and_transport_states.md sections 7.4, 7.5, 7.8; 08_locate.md sections 8.2,
8.5; 10_chase_synchronisation.md sections 10.3, 10.4; 11_protection_and_fault_handling.md section 11.4;
notes/assumptions/16.md; notes/assumptions/20.md; notes/assumptions/26.md; notes/assumptions/34.md.) -/
def Obligations.RequestStartsFromStopped : Prop :=
  ∀ (tag : Byte) (params : List Byte) (kind : RequestKind) (s : State), Ready s → params.length = 9 →
    requestKindOf (params.getD 0 0).toNat = some kind → emptyRequest kind params = false →
    s.planner.transport = .stopped → s.planner.active = none → s.planner.queue = [] →
    let r := buildRequest kind params s
    let active := told s.msg 0xC3 r.tag [kind.code, errorByte r.errors]
    let done (result : Byte) := told active 0xC4 r.tag [kind.code, result]
    let started : Planner := { s.planner with queue := [], hold := false, active := some r }
    let ended : Planner := { s.planner with queue := [], hold := false, active := none, dwell := 0 }
    let free := if r.reverse then s.protection.inhibitReverse = false else s.protection.inhibitForward = false
    let answers (p : Planner) (m : MessageUnit) : Prop :=
      exec (.queueMotion tag params) s = .next
        { s with
          planner := p,
          msg := answered m 0x28 tag (if r.errors.speedClamped || r.errors.offsetClamped then 0x01 else 0x00)
            [r.tag, 0, errorByte r.errors] }
    (kind = .play → free →
      answers { started with
        transport := .play,
        pinch := if s.engageFrames = 0 then .engaged else .engaging s.engageFrames,
        target := if s.engageFrames = 0 then
            min (s.capstanMax : Int) ((2 * (s.playSpeed r.speedB * s.planner.ratio) + 4096) / 8192 : Nat)
          else 0 } active) ∧
    (kind = .wind → free →
      answers { started with transport := .wind, target := if r.reverse then -(r.speed : Int) else r.speed } active) ∧
    (kind = .dwell → answers { started with dwell := r.frames } active) ∧
    (kind = .stop → answers ended (done 0)) ∧
    (kind = .play ∨ kind = .wind → ¬ free → answers { ended with target := 0 } (done 9)) ∧
    (kind = .locate → s.position.track = .absent → answers ended (done 6)) ∧
    (TransportSound s →
      let begun := locateBegun s .request r.target r.speed
      let chasing := chaseOrdered r s started
      (kind = .locate → s.position.track ≠ .absent → ¬ Barred s r →
        answers { started with transport := .locate, loc := begun.1, target := begun.2 } active) ∧
      (kind = .locate → s.position.track ≠ .absent → Barred s r →
        answers { ended with loc := { begun.1 with phase := .none }, target := 0 } (done 9)) ∧
      (kind = .chase → Barred s r →
        answers { ended with target := 0, mode := .none, capstanWaits := false } (done 9)) ∧
      (kind = .chase → ¬ Barred s r →
        exec (.queueMotion tag params) s = .next
          { s with
            planner := chasing false, chase := chaseTakenUp r s,
            msg := answered (told active 0xCA r.tag
                ([(chaseChoice r s).1.code, 0, 1] ++ leBytes 2 s.chase.lockLosses))
              0x28 tag (if r.errors.offsetClamped then 0x01 else 0x00) [r.tag, 0, errorByte r.errors] }))

/-- O42. STOP_NOW flushes the queue, ends the active request FLUSHED and takes a moving transport into HALTING. (Rests
on: 07_motion_requests_and_transport_states.md sections 7.4, 7.5; 08_locate.md section 8.4;
09_cue_table_and_record_gates.md section 9.4; 10_chase_synchronisation.md section 10.7; notes/assumptions/14.md.) -/
def Obligations.StopNowHalts : Prop :=
  ∀ (tag : Byte) (params : List Byte) (s : State), Ready s →
    (params ≠ [] → exec (.stopNow tag params) s = .next (refusedWith s 0x29 tag 0x11 [])) ∧
    (params = [] → s.planner.transport = .safe →
      exec (.stopNow tag params) s = .next (refusedWith s 0x29 tag 0x13 [])) ∧
    (params = [] → s.planner.transport ≠ .safe →
      ∃ t, exec (.stopNow tag params) s = .next t ∧ UnchangedBut [.msg, .planner, .chase, .cue] s t ∧
        t.planner.queue = [] ∧ t.planner.hold = false ∧ t.planner.active = none ∧
        (Moving s → Halted s t) ∧ (¬ Moving s → t.planner.transport = s.planner.transport ∧ t.cue = s.cue) ∧
        (∀ r, s.planner.active = some r → r.kind = .locate → t.planner.resume = some r.target) ∧
        t.msg.replies = s.msg.replies ++ [[0xA9, tag, 4, 0x00, BitVec.ofNat 8 s.planner.queue.length] ++
          (match s.planner.active with
            | some r => [1, r.tag]
            | none => [0, 0])] ∧
        t.msg = answered
          (if s.planner.transport ∈ [Transport.play, .wind, .locate, .chase] then
            toldGates 1 s (toldEnd 2 s (toldFlush 1 s s.msg))
           else toldEnd 2 s (toldFlush 1 s s.msg)) 0x29 tag 0x00
          ([BitVec.ofNat 8 s.planner.queue.length] ++
            (match s.planner.active with
              | some r => [1, r.tag]
              | none => [0, 0])))

/-- O43. FLUSH removes every waiting record, clears HOLD and leaves the active request and the transport as they are.
(Rests on: 07_motion_requests_and_transport_states.md section 7.4.) -/
def Obligations.FlushEmptiesQueue : Prop :=
  ∀ (tag : Byte) (params : List Byte) (s : State), Ready s →
    let n := BitVec.ofNat 8 s.planner.queue.length
    exec (.flush tag params) s = .next
      (if params ≠ [] then refusedWith s 0x2A tag 0x11 []
       else if s.planner.transport = .safe then refusedWith s 0x2A tag 0x13 []
       else
        { s with
          planner := { s.planner with queue := [], hold := false },
          msg := answered (if s.planner.queue = [] then s.msg else told s.msg 0xC5 0 [n, 2]) 0x2A tag 0x00 [n] })

/-- O44. SET_VARISPEED clamps the varispeed to ±1250, sets the ratio and reports what it obtained. (Rests on:
07_motion_requests_and_transport_states.md section 7.8; notes/assumptions/17.md.) -/
def Obligations.SetVarispeedSetsRatio : Prop :=
  ∀ (tag : Byte) (params : List Byte) (s : State), Ready s →
    let asked : Int := (BitVec.ofNat 16 (leNat params)).toInt
    let bp : Int := max (-1250) (min 1250 asked)
    let ratio : Nat := ((2 * (4096 * (10000 + bp)) + 10000) / 20000).toNat
    let obtained : Int := (2 * (ratio * 10000) + 4096) / 8192 - 10000
    exec (.setVarispeed tag params) s = .next
      (if params.length ≠ 2 then refusedWith s 0x2B tag 0x11 []
       else
        { s with
          planner := { s.planner with ratio := ratio },
          msg := answered s.msg 0x2B tag (if bp = asked then 0x00 else 0x01)
            (leBytes 2 ratio ++ leIntBytes 2 obtained) }) ∧
    3584 ≤ ratio ∧ ratio ≤ 4608

/-- O45. RESUME queues a LOCATE to the resume address at WIND_MAX, and in STOPPED the locate starts. (Rests on:
08_locate.md section 8.4; 07_motion_requests_and_transport_states.md section 7.4.) -/
def Obligations.ResumeQueuesLocate : Prop :=
  ∀ (tag : Byte) (params : List Byte) (s : State), Ready s →
    let queued (address : Nat) : Request :=
      { kind := .locate, tag := params.getD 0 0, speedB := false, reverse := false, untilAt := none, speed := s.windMax,
        frames := 0, target := address, offset := 0,
        errors := { speedClamped := false, untilBehind := false, offsetClamped := false } }
    let fill := s.planner.queue.length + 1
    (params.length ≠ 1 → exec (.resume tag params) s = .next (refusedWith s 0x2C tag 0x11 [])) ∧
    (params.length = 1 → s.planner.transport = .safe →
      exec (.resume tag params) s = .next (refusedWith s 0x2C tag 0x15 [])) ∧
    (params.length = 1 → s.planner.transport ≠ .safe → s.planner.resume = none →
      exec (.resume tag params) s = .next (refusedWith s 0x2C tag 0x1B [])) ∧
    (∀ address, params.length = 1 → s.planner.transport ≠ .safe → s.planner.resume = some address →
      (16 ≤ s.planner.queue.length → exec (.resume tag params) s = .next (refusedWith s 0x2C tag 0x14 [])) ∧
      (s.planner.queue.length < 16 → s.planner.transport ≠ .stopped ∨ s.planner.active ≠ none →
        exec (.resume tag params) s = .next
          { s with
            planner := { s.planner with
              queue := s.planner.queue ++ [queued address],
              hold := if s.holdHigh ≤ fill then true else s.planner.hold },
            msg := answered s.msg 0x2C tag 0x00
              ([params.getD 0 0, BitVec.ofNat 8 fill, 0] ++ leBytes 4 address) }) ∧
      (s.planner.queue = [] → s.planner.transport = .stopped → s.planner.active = none → s.position.track ≠ .absent →
        s.protection.inhibitForward = false → s.protection.inhibitReverse = false →
        ∃ t, exec (.resume tag params) s = .next t ∧ UnchangedBut [.msg, .planner] s t ∧
          t.planner.transport = .locate ∧ t.planner.active = some (queued address) ∧ t.planner.queue = [] ∧
          t.planner.resume = some address ∧ t.planner.loc.kind = .request ∧ t.planner.loc.overshoots = 0 ∧
          t.planner.loc.target = BitVec.ofInt 32 ((address * s.sectorLen / 256 : Nat) + s.readerOffset) ∧
          t.msg = answered (told s.msg 0xC3 (params.getD 0 0) [3, 0]) 0x2C tag 0x00
            ([params.getD 0 0, 0, 0] ++ leBytes 4 address)))

/-- O46. A good frame while VALID moves P, v_meas, the track and both radius windows by its deltas and TRACK word; a
window goes stale, a track age expires. (Rests on: 05_reel_channels.md sections 5.3, 5.4, 5.5;
06_tape_position_and_the_timing_track.md sections 6.1, 6.2, 6.3, 6.4; notes/assumptions/2.md; notes/assumptions/3.md;
notes/assumptions/10.md; notes/assumptions/36.md.) -/
def Obligations.StaleWindowAndTrackAge : Prop :=
  ∀ (reel : Reel) (f : Frame) (sched : Schedule) (s : State),
    let c := s.channel reel
    let age := min (s.position.trackAge + 1) 65535
    (if s.config.valid = true ∧ |c.reelAcc| < (s.rwin : Int) ∧ s.rstale ≤ c.age + 1 then
      exec (.radiusWindowStale reel) s = .next (s.withChannel reel { c with reelAcc := 0, idlerAcc := 0, age := 0 })
     else exec (.radiusWindowStale reel) s = .next s) ∧
    (if s.config.valid = true ∧ s.position.track = .tracking ∧ s.trackAgeLimit ≤ age then
      exec .trackAgeExpiry s = .next
        { s with
          position := { s.position with trackAge := age, track := .coasting }, msg := told s.msg 0xC1 0 [1, 3] }
     else exec .trackAgeExpiry s = .next s) ∧
    (GoodIdleFrame f s →
      ∃ t, exec (.servoFrameArrival f sched) s = .next t ∧ WindowMoved f s t reel ∧
        (inRange32 (s.position.wordTravel + idlerChange f s) → t.position = positionAfter f s))

/-- O47. The pinch engages and releases, a dwell expires and a halt completes when their counts run out, and the head is
then taken. (Rests on: 07_motion_requests_and_transport_states.md sections 7.5, 7.8; notes/assumptions/3.md;
notes/assumptions/17.md.) -/
def Obligations.PlannerCountsExpire : Prop :=
  ∀ s : State, s.config.valid = true →
    (∀ n r, s.planner.pinch = .engaging n → n ≤ 1 → s.planner.transport = .play → s.planner.active = some r →
      exec .pinchEngaged s = .next { s with planner := { s.planner with
        pinch := .engaged,
        target := min (s.capstanMax : Int) ((2 * (s.playSpeed r.speedB * s.planner.ratio) + 4096) / 8192 : Nat) } }) ∧
    (∀ n, s.planner.pinch = .engaging n → n ≤ 1 → s.planner.transport = .chase → s.planner.mode = .capstan →
      exec .pinchEngaged s = .next { s with planner := { s.planner with
        pinch := .engaged, target := min (s.capstanMax : Int) (s.chase.supplied : Int) } }) ∧
    (∀ n, s.planner.pinch = .releasing n → n ≤ 1 →
      exec .pinchReleased s = .next { s with planner := { s.planner with pinch := .released } }) ∧
    (∀ r, s.planner.active = some r → r.kind = .dwell → s.planner.dwell ≤ 1 →
      let ended : State :=
        { s with planner := { s.planner with active := none, dwell := 0 }, msg := told s.msg 0xC4 r.tag [6, 0] }
      exec .dwellExpiry s = .next (takeHead ended) ∧
        (s.planner.queue = [] → exec .dwellExpiry s = .next ended)) ∧
    (s.planner.transport = .halting → s.planner.vRef = 0 → s.planner.pinch = .released →
      let halted : State := { s with planner := { s.planner with transport := .stopped, target := 0 } }
      exec .haltComplete s = .next (takeHead halted) ∧
        (s.planner.queue = [] → exec .haltComplete s = .next halted))

/-- O48. At a record a request advances, an approach steps, or it ends with its result; the head takes over or the
transport halts. (Rests on: 07_motion_requests_and_transport_states.md section 7.5; 08_locate.md sections 8.2, 8.3, 8.4;
09_cue_table_and_record_gates.md section 9.4; 10_chase_synchronisation.md sections 10.4, 10.7;
11_protection_and_fault_handling.md section 11.4; notes/assumptions/3.md; notes/assumptions/14.md;
notes/assumptions/15.md; notes/assumptions/16.md; notes/assumptions/20.md; notes/assumptions/26.md;
notes/assumptions/34.md.) -/
def Obligations.RequestEndsAndSuccession : Prop :=
  ∀ (r : Request) (f : Frame) (sched : Schedule) (s : State), s.config.valid = true → s.planner.active = some r →
    (∀ head rest, s.planner.queue = head :: rest → r.untilAt = none →
      (r.kind = .play ∧ s.planner.transport = .play) ∨ (r.kind = .wind ∧ s.planner.transport = .wind) →
      ((head.kind = .stop ∨ head.kind = .dwell ∨
          (r.kind = .play ∧ (head.kind = .wind ∨ head.kind = .locate)) ∨
          (r.kind = .wind ∧ (head.kind = .play ∨ head.kind = .chase))) →
        ∃ t, exec .supersession s = .next t ∧ UnchangedBut [.msg, .planner, .cue] s t ∧ Halted s t ∧
          t.planner.queue = s.planner.queue ∧ toldFirst s t 0xC4 r.tag [r.kind.code, 1]) ∧
      (r.kind = .wind → head.kind = .wind →
        (if head.reverse then s.protection.inhibitReverse else s.protection.inhibitForward) = false →
        ∃ t head', exec .supersession s = .next t ∧ UnchangedBut [.msg, .planner, .cue] s t ∧
          t.planner.transport = .wind ∧ t.planner.active = some head' ∧ t.planner.queue = rest ∧
          t.planner.pinch = s.planner.pinch ∧ t.planner.vRef = s.planner.vRef ∧
          t.planner.target = (if head.reverse then -(head.speed : Int) else head.speed) ∧
          head' = { head with untilAt := head'.untilAt, errors := head'.errors } ∧
          (head'.untilAt = head.untilAt ∨ head'.untilAt = none ∧ head'.errors.untilBehind = true) ∧
          toldFirst s t 0xC4 r.tag [2, 1])) ∧
    (s.planner.transport = .locate → r.kind = .locate → s.planner.loc.kind = .request → s.planner.loc.phase = .park →
      s.planner.vRef = 0 → |(s.planner.loc.target - s.position.p).toInt| ≤ (s.parkWindow : Int) →
      s.planner.queue = [] →
      ∃ t, exec .locateParked s = .next t ∧ UnchangedBut [.msg, .planner, .cue] s t ∧ Halted s t ∧
        t.planner.queue = [] ∧ t.planner.resume = none ∧ t.planner.loc = { s.planner.loc with phase := .none } ∧
        toldFirst s t 0xC4 r.tag [3, 0]) ∧
    (s.planner.transport = .locate → r.kind = .locate → s.planner.loc.kind = .request → s.planner.loc.phase ≠ .none →
      s.planner.loc.remaining ≤ 1 →
      ∃ t, exec .locateTimeout s = .next t ∧ UnchangedBut [.msg, .planner, .cue] s t ∧ Halted s t ∧
        t.planner.queue = s.planner.queue ∧ t.planner.resume = some r.target ∧
        t.planner.loc = { s.planner.loc with phase := .none, remaining := 0 } ∧
        toldFirst s t 0xC4 r.tag [3, 4]) ∧
    (TransportSound s → GatesGuarded s →
      (s.planner.queue ≠ [] → r.kind = .chase ∨ ((r.kind = .play ∨ r.kind = .wind) ∧ r.untilAt = none) →
        ∃ t, exec .supersession s = .next t ∧ Succeeds r .superseded s t) ∧
      (r.kind = .locate → s.planner.loc.phase = .park → s.planner.vRef = 0 →
        |(s.planner.loc.target - s.position.p).toInt| ≤ (s.parkWindow : Int) →
        ∃ t, exec .locateParked s = .next t ∧ Succeeds r .completed s t) ∧
      (GoodIdleFrame f s → s.planner.queue = [] → Undisturbed f s →
        ∃ t, exec (.servoFrameArrival f sched) s = .next t ∧ RequestAdvanced r f s (arrivalWork f sched s) t))

/-- O49. CUE_WRITE makes its four checks in order and replaces the entry at its index, ARMED or DISARMED by its flag.
(States: R150.) -/
def Obligations.CueWriteReplacesEntry : Prop :=
  ∀ (tag : Byte) (params : List Byte) (s : State), Ready s →
    let index := params.getD 0 0
    let armed := (params.getD 1 0).getLsbD 0
    let outcome := exec (.cueWrite tag params) s
    (params.length ≠ 10 → outcome = .next (refusedWith s 0x30 tag 0x11 [])) ∧
    (params.length = 10 → 31 < index.toNat → outcome = .next (refusedWith s 0x30 tag 0x12 [])) ∧
    (params.length = 10 → index.toNat ≤ 31 → CueUnfit (params.drop 2) →
      outcome = .next (refusedWith s 0x30 tag 0x12 [])) ∧
    (∀ e, params.length = 10 → index.toNat ≤ 31 → CarriedCue armed (params.drop 2) e →
      let conflict (j : Fin 32) : Prop :=
        armed = true ∧ j.val ≠ index.toNat ∧ s.cue.entries[j].state = .armed ∧ Overlapping s.cue.entries[j] e
      (∀ j, conflict j → (∀ k, conflict k → j ≤ k) →
        outcome = .next (refusedWith s 0x30 tag 0x1A [BitVec.ofNat 8 j])) ∧
      ((∀ j, ¬ conflict j) → outcome = .next
        { s with
          cue := { s.cue with entries := s.cue.entries.setIfInBounds index.toNat e },
          msg := answered s.msg 0x30 tag 0x00 [index] }))

/-- O50. CUE_WRITE_MANY writes its entries at consecutive indices up to the first it discards, and reports how far it
came. (Rests on: 09_cue_table_and_record_gates.md section 9.3; 02_management_messages.md section 2.3;
notes/assumptions/5.md.) -/
def Obligations.CueWriteManyWritesRun : Prop :=
  ∀ (tag : Byte) (params : List Byte) (s : State), Ready s → params.length ≤ 61 →
    let n := (params.length - 2) / 8
    let first := params.getD 0 0
    let armed := (params.getD 1 0).getLsbD 0
    let bytes (i : Nat) := (params.drop (2 + 8 * i)).take 8
    let fits : Prop := params.length = 10 ∨ params.length = 18 ∨ params.length = 26 ∨ params.length = 34
    let outcome := exec (.cueWriteMany tag params) s
    (¬ fits → outcome = .next (refusedWith s 0x31 tag 0x11 [])) ∧
    (fits → 32 < first.toNat + n → outcome = .next (refusedWith s 0x31 tag 0x12 [])) ∧
    (∀ es : List CueEntry, fits → first.toNat + n ≤ 32 → es.length ≤ n →
      (∀ i (h : i < es.length), CarriedCue armed (bytes i) es[i]) →
      let table (k : Nat) (j : Fin 32) : CueEntry :=
        if first.toNat ≤ j.val ∧ j.val < first.toNat + k then es.getD (j.val - first.toNat) s.cue.entries[j]
        else s.cue.entries[j]
      let conflict (k : Nat) (e : CueEntry) (j : Fin 32) : Prop :=
        armed = true ∧ j.val ≠ first.toNat + k ∧ (table k j).state = .armed ∧ Overlapping (table k j) e
      (∀ i (h : i < es.length), ∀ j, ¬ conflict i es[i] j) →
      ∃ entries : Vector CueEntry 32, (∀ j : Fin 32, entries[j] = table es.length j) ∧
        let k := es.length
        let ends (result : Result) (x : Option Nat) (code last : Byte) : Prop := outcome = .next
          { s with
            cue := { s.cue with
              entries := entries, writeIndex := first.toNat + k, count := k, result := result, conflict := x },
            msg := answered s.msg 0x31 tag code [first, BitVec.ofNat 8 k, last] }
        (k = n → ends .ok none 0x00 0xFF) ∧
        (k < n → CueUnfit (bytes k) → ends .badValue none 0x12 0xFF) ∧
        (∀ e j, k < n → CarriedCue armed (bytes k) e → conflict k e j → (∀ m, conflict k e m → j ≤ m) →
          ends .duplicate (some j.val) 0x1A (BitVec.ofNat 8 j)))

/-- O51. CUE_ARM arms every DISARMED or SPENT entry it names, or, where one of them conflicts, none. (Rests on:
09_cue_table_and_record_gates.md sections 9.2, 9.3; notes/assumptions/22.md.) -/
def Obligations.CueArmArmsCandidates : Prop :=
  ∀ (tag : Byte) (params : List Byte) (s : State), Ready s →
    let mask : Word32 := BitVec.ofNat 32 (leNat params)
    let outcome := exec (.cueArm tag params) s
    (params.length ≠ 4 → outcome = .next (refusedWith s 0x32 tag 0x11 [])) ∧
    (params.length = 4 → (∀ i j, ¬ ArmConflict s mask i j) →
      ∃ (armed : Word32) (entries : Vector CueEntry 32),
        (∀ i : Fin 32, (armed.getLsbD i = true ↔ Candidate s mask i) ∧
          entries[i] = if armed.getLsbD i then { s.cue.entries[i] with state := .armed } else s.cue.entries[i]) ∧
        outcome = .next
          { s with
            cue := { s.cue with entries := entries }, msg := answered s.msg 0x32 tag 0x00 (leBytes 4 armed.toNat) }) ∧
    (∀ i, params.length = 4 → (∃ j, ArmConflict s mask i j) → (∀ k < i, ∀ j, ¬ ArmConflict s mask k j) →
      ∃ (j : Fin 32) (draws : Nat), ArmConflict s mask i j ∧
        ((∀ k, ArmConflict s mask i k → k = j) → draws = s.freeDraws) ∧
        outcome = .next { refusedWith s 0x32 tag 0x1A [BitVec.ofNat 8 i, BitVec.ofNat 8 j] with freeDraws := draws })

/-- O52. CUE_DISARM disarms the named ARMED entries, CUE_CLEAR empties the named entries, CUE_READ reports an entry; no
line moves. (Rests on: 09_cue_table_and_record_gates.md sections 9.3, 9.4; 01_the_transport_ring.md section 1.6;
notes/assumptions/23.md.) -/
def Obligations.CueDisarmClearRead : Prop :=
  ∀ (tag : Byte) (params : List Byte) (s : State), Ready s →
    let mask : Word32 := BitVec.ofNat 32 (leNat params)
    (params.length ≠ 4 → exec (.cueDisarm tag params) s = .next (refusedWith s 0x33 tag 0x11 []) ∧
      exec (.cueClear tag params) s = .next (refusedWith s 0x34 tag 0x11 [])) ∧
    (params.length = 4 →
      ∃ (changed : Word32) (disarmed cleared : Vector CueEntry 32),
        (∀ i : Fin 32, (changed.getLsbD i = true ↔ mask.getLsbD i = true ∧ s.cue.entries[i].state = .armed) ∧
          disarmed[i] = (if changed.getLsbD i then { s.cue.entries[i] with state := .disarmed } else s.cue.entries[i]) ∧
          cleared[i] = if mask.getLsbD i then
              { state := .empty, address := 0, direction := .fwd, action := .gateOpen, mask := 0, profile := 0,
                oneShot := false, label := 0 }
            else s.cue.entries[i]) ∧
        exec (.cueDisarm tag params) s = .next
          { s with
            cue := { s.cue with entries := disarmed },
            msg := answered s.msg 0x33 tag 0x00 (leBytes 4 changed.toNat) } ∧
        exec (.cueClear tag params) s = .next
          { s with
            cue := { s.cue with entries := cleared },
            msg := answered s.msg 0x34 tag 0x00 [BitVec.ofNat 8 ((List.finRange 32).countP
              fun i : Fin 32 => mask.getLsbD i && s.cue.entries[i].state != .empty)] }) ∧
    exec (.cueRead tag params) s = .next (match params with
      | [index] =>
        if h : index.toNat < 32 then
          let e := s.cue.entries[index.toNat]
          let enabled := (s.planner.transport == .play ||
            (s.planner.transport == .chase && (s.chase.state == .locked || s.chase.state == .stable))) &&
            s.position.track != .absent
          let effective : Int :=
            if s.config.valid then (if e.action.code ≤ 1 then e.address + s.gateShift else (e.address : Int)) else 0
          { s with
            msg := answered s.msg 0x35 tag 0x00
              ([index, e.state.code] ++ leBytes 4 e.address ++
                [BitVec.ofNat 8 (e.direction.code + 4 * e.action.code + (if e.oneShot then 32 else 0) + 64 * e.profile.val),
                  e.mask] ++ leBytes 2 e.label ++ leIntBytes 5 effective ++
                [s.cue.gates, if enabled then 1 else 0]) }
        else refusedWith s 0x35 tag 0x12 []
      | _ => refusedWith s 0x35 tag 0x11 [])

/-- O53. SET_OFFSET replaces the chase offset, clamped; READ_SYNC reports the Chase Unit and with its option zeroes
three items. (Rests on: 10_chase_synchronisation.md section 10.8; notes/assumptions/7.md.) -/
def Obligations.SetOffsetAndReadSync : Prop :=
  ∀ (tag : Byte) (params : List Byte) (s : State), Ready s →
    let asked : Int := (BitVec.ofNat 32 (leNat params)).toInt
    let offset : Int := max (-8388608) (min 8388608 asked)
    let c := s.chase
    exec (.setOffset tag params) s = .next
      (if params.length ≠ 4 then refusedWith s 0x38 tag 0x11 []
       else if c.state = .idle then refusedWith s 0x38 tag 0x13 []
       else
        { s with
          chase := { c with offset := offset },
          msg := answered s.msg 0x38 tag (if offset = asked then 0x00 else 0x01) (leIntBytes 4 offset) }) ∧
    (params.length ≠ 1 → exec (.readSync tag params) s = .next (refusedWith s 0x39 tag 0x11 [])) ∧
    (∀ option, params = [option] → ∃ (vr : Int) (draws : Nat),
      (inRange32 (c.vr.getD 0) → vr = c.vr.getD 0 ∧ draws = s.freeDraws) ∧
      exec (.readSync tag params) s = .next
        { s with
          freeDraws := draws,
          chase := if option.getLsbD 0 then { c with lockLosses := 0, trimMax := 0, trimMin := 0 } else c,
          msg := answered s.msg 0x39 tag 0x00
            ([c.state.code] ++ leIntBytes 4 c.offset ++ leIntBytes 5 c.e ++ leIntBytes 4 vr ++
              [if c.vr.isSome then 1 else 0] ++ leBytes 2 c.basis ++ leIntBytes 2 c.trim ++ leIntBytes 2 c.trimMax ++
              leIntBytes 2 c.trimMin ++ leBytes 2 c.lockLosses ++ leBytes 2 c.framesInState ++ leBytes 2 c.qualRun ++
              leBytes 2 c.absentRun ++ [BitVec.ofNat 8 c.history.length]) })

/-- O54. READ_FAULTS reports flags, first-fault record and counters, then clears the flags, the record and with its
option the counters. (Rests on: 11_protection_and_fault_handling.md section 11.7; notes/assumptions/35.md.) -/
def Obligations.ReadFaultsClearsFlags : Prop :=
  ∀ (tag : Byte) (params : List Byte) (s : State), Ready s →
    let x := s.protection
    (params.length ≠ 1 → exec (.readFaults tag params) s = .next (refusedWith s 0x3A tag 0x11 [])) ∧
    (∀ option, params = [option] → ∃ (record : List Byte) (draws : Nat), record.length = 13 ∧
      (match x.record with
        | some r =>
          record = [1, r.condition.code, (match r.reel with | none => 0xFF | some .supply => 0 | some .takeup => 1), r.seq] ++
            leBytes 4 r.p.toNat ++ [r.transport.code] ++ leIntBytes 4 r.captured ∧ draws = s.freeDraws
        | none => record.take 3 = [0, 0, 0]) ∧
      exec (.readFaults tag params) s = .next
        { s with
          freeDraws := draws,
          protection := { x with
            flags := 0, record := none,
            counters := if option.getLsbD 0 then Vector.replicate 10 0 else x.counters },
          msg := answered s.msg 0x3A tag 0x00
            (leBytes 2 x.flags.toNat ++ record ++ (x.counters.toList.map (leBytes 2)).flatten ++
              [(if x.inhibitForward then 1 else 0) + (if x.inhibitReverse then 2 else 0)] ++ leBytes 2 x.grace ++
              leBytes 2 x.settleRun) })

/-- O55. The ESTOP command stops the transport in ESTOP at once, flushing the queue, and is no fault condition. (Rests
on: 11_protection_and_fault_handling.md sections 11.1, 11.5; 07_motion_requests_and_transport_states.md section 7.3;
05_reel_channels.md section 5.1; 08_locate.md section 8.4; notes/assumptions/14.md.) -/
def Obligations.EstopCommandStops : Prop :=
  ∀ (tag : Byte) (params : List Byte) (s : State), Ready s →
    let n := BitVec.ofNat 8 s.planner.queue.length
    (params ≠ [] → exec (.estop tag params) s = .next (refusedWith s 0x3B tag 0x11 [])) ∧
    (params = [] → s.planner.transport = .safe → exec (.estop tag params) s = .next (refusedWith s 0x3B tag 0x13 [])) ∧
    (params = [] → s.planner.transport = .estop → exec (.estop tag params) s = .next
      { s with
        planner := { s.planner with queue := [], hold := false },
        msg := answered (if s.planner.queue = [] then s.msg else told s.msg 0xC5 0 [n, 3]) 0x3B tag 0x00 [8] }) ∧
    (params = [] → s.planner.transport ≠ .safe → s.planner.transport ≠ .estop →
      ∃ t, exec (.estop tag params) s = .next t ∧ Stopped s t ∧
        UnchangedBut [.msg, .planner, .supply, .takeup, .cue, .chase, .protection] s t ∧
        t.protection = { s.protection with slackSup := 0, slackTak := 0, grace := 0, settleRun := 0 } ∧
        (∀ r, s.planner.active = some r → r.kind = .locate → t.planner.resume = some r.target) ∧
        t.msg.replies = s.msg.replies ++ [[0xBB, tag, 2, 0x00, s.planner.transport.code]] ∧
        t.msg = answered (toldGates 1 s (toldEnd 3 s (toldFlush 3 s s.msg))) 0x3B tag 0x00 [s.planner.transport.code])

/-- O56. RELEASE takes BRAKED into STOPPED with the slack grace set, and the head is taken. (Rests on:
11_protection_and_fault_handling.md section 11.6; 07_motion_requests_and_transport_states.md section 7.5.) -/
def Obligations.ReleaseEntersStopped : Prop :=
  ∀ (tag : Byte) (params : List Byte) (s : State), Ready s →
    let released : State :=
      { s with
        planner := { s.planner with transport := .stopped, target := 0 },
        protection := { s.protection with slackSup := 0, slackTak := 0, grace := s.slackGrace } }
    let t := if s.planner.queue = [] then released else takeHead released
    exec (.release tag params) s = .next
      (if params ≠ [] then refusedWith s 0x3C tag 0x11 []
       else if s.planner.transport ≠ .braked then refusedWith s 0x3C tag 0x13 []
       else if s.ring.tapePresent = false then refusedWith s 0x3C tag 0x1C []
       else { t with msg := answered t.msg 0x3C tag 0x00 [] })

/-- O57. A record moves the chase: history, error, trim, state and orders; qualifying ones take PHASE to LOCKED, then
STABLE; REF_HOLD absent ones end it. (Rests on: 10_chase_synchronisation.md sections 10.2 to 10.7;
07_motion_requests_and_transport_states.md section 7.3; 08_locate.md sections 8.3, 8.5; notes/assumptions/2.md;
notes/assumptions/3.md; notes/assumptions/10.md; notes/assumptions/14.md; notes/assumptions/19.md;
notes/assumptions/20.md; notes/assumptions/21.md.) -/
def Obligations.ChaseQualifiesAndIsLost : Prop :=
  ∀ (e : Int) (f : Frame) (sched : Schedule) (s : State), s.config.valid = true → s.planner.transport = .chase →
    let c := s.chase
    let run := min (c.qualRun + 1) 65535
    let trim := clampSym s.trimLim (roundDiv (e * s.kph) 256)
    let trimmed : ChaseUnit := { c with
      absentRun := 0, e := e, trim := trim, supplied := (roundDiv (c.basis * (4096 + trim)) 4096).toNat,
      trimMax := max c.trimMax trim, trimMin := min c.trimMin trim, framesInState := 0 }
    (c.state = .phase → s.position.track ≠ .absent → referenceRuns s = true → |e| ≤ (s.lockWindow : Int) →
      |e| ≤ (s.acqWindow : Int) → s.lockFrames ≤ run →
      exec (.lockQualified e) s = .next
        { s with
          chase := { trimmed with state := .locked, qualRun := 0 },
          msg := told s.msg 0xCA c.tag ([5, 4, 6] ++ leBytes 2 c.lockLosses) }) ∧
    (c.state = .locked → s.position.track ≠ .absent → referenceRuns s = true → |e| ≤ (s.lockWindow : Int) →
      |e| ≤ (s.lossWindow : Int) → s.stableFrames ≤ run →
      exec (.stableQualified e) s = .next
        { s with
          chase := { trimmed with state := .stable, qualRun := run },
          msg := told s.msg 0xCA c.tag ([6, 5, 7] ++ leBytes 2 c.lockLosses) }) ∧
    (∀ r, s.planner.active = some r → r.kind = .chase → c.state ≠ .idle → s.ring.refValid = false →
      s.refHold ≤ min (c.absentRun + 1) 65535 →
      ∃ t, exec .refLost s = .next t ∧ UnchangedBut [.msg, .planner, .cue, .chase] s t ∧ Halted s t ∧
        t.planner.queue = s.planner.queue ∧ t.planner.mode = .none ∧ t.chase.state = .idle ∧ t.chase.trim = 0 ∧
        t.chase.absentRun = 0 ∧ (c.state = .holdover → toldFirst s t 0xC4 r.tag [4, 8]) ∧
        let dropped : State :=
          { s with
            chase := { c with state := .holdover }, cue := { s.cue with gates := 0 },
            msg := toldGates 2 s (told s.msg 0xCA c.tag ([7, c.state.code, 9] ++ leBytes 2 c.lockLosses)) }
        let u := if c.state ∈ [ChaseState.slew, .phase, .locked, .stable] then dropped else s
        t.msg = toldGates 1 u (toldEnd 8 u u.msg)) ∧
    (GoodIdleFrame f s → TransportSound s → s.planner.queue = [] → c.state ≠ .idle →
      ∃ t, exec (.servoFrameArrival f sched) s = .next t ∧
        (t.chase.state ≠ .idle → ChaseRecorded f s (arrivalWork f sched s) t))

/-- O58. An internal locate starts its approach once the pinch is released at rest, and its park in ACQUIRE gives the
capstan order of SLEW. (Rests on: 08_locate.md sections 8.2, 8.3, 8.5; 10_chase_synchronisation.md section 10.4;
07_motion_requests_and_transport_states.md section 7.8; notes/assumptions/3.md.) -/
def Obligations.InternalLocateStartsAndParks : Prop :=
  ∀ s : State, s.config.valid = true → s.planner.transport = .chase → s.planner.loc.kind = .internal →
    s.planner.pinch = .released → s.planner.vRef = 0 →
    let d := (s.planner.loc.target - s.position.p).toInt
    let limit : Nat := if 1 ≤ s.planner.loc.overshoots then min s.windMax s.creepSpeed else s.windMax
    (s.planner.loc.phase = .wait →
      exec .internalLocateActivate s = .next { s with planner := { s.planner with
        loc := { s.planner.loc with
          phase := if |d| ≤ (s.parkWindow : Int) then .park else .cruise,
          reverse := if |d| ≤ (s.parkWindow : Int) then false else decide (d < 0) },
        target := if |d| ≤ (s.parkWindow : Int) then 0 else if d < 0 then -(limit : Int) else limit } }) ∧
    (s.planner.loc.phase = .park → |d| ≤ (s.parkWindow : Int) → s.chase.state = .acquire →
      ∃ t, exec .locateParked s = .next t ∧ UnchangedBut [.msg, .planner, .chase] s t ∧
        t.planner.transport = .chase ∧ t.planner.active = s.planner.active ∧ t.planner.resume = s.planner.resume ∧
        t.planner.loc = { s.planner.loc with phase := .none } ∧ t.planner.mode = .capstan ∧
        t.planner.pinch = (if s.engageFrames = 0 then .engaged else .engaging s.engageFrames) ∧
        t.chase = { s.chase with
          state := .slew, framesInState := 0, trim := 0, locatePending := false, lastOrder := .capstan,
          supplied := if s.chase.e < -(s.phaseWindow : Int) then 0 else s.chase.basis } ∧
        t.msg = told s.msg 0xCA s.chase.tag ([3, 2, 4] ++ leBytes 2 s.chase.lockLosses))

/-- O59. A slack run that reaches SLACK_FRAMES stops the transport in ESTOP; ESTOP_SETTLE still frames pass ESTOP to
BRAKED. (Rests on: 11_protection_and_fault_handling.md sections 11.1, 11.2, 11.3, 11.5; notes/assumptions/3.md;
notes/assumptions/7.md.) -/
def Obligations.SlackStopsAndEstopSettles : Prop :=
  ∀ (reel : Reel) (s : State), s.config.valid = true →
    let c := s.channel reel
    let run := match reel with
      | .supply => s.protection.slackSup
      | .takeup => s.protection.slackTak
    (s.planner.transport ∉ [Transport.safe, .braked, .estop] → s.protection.grace = 0 → c.tMeas < s.slackLevel →
      run < s.slackFrames → s.slackFrames ≤ run + 1 →
      ∃ t captured, exec (.slack reel) s = .next t ∧ FaultNoted s t .slack (some reel) s.ring.lastSeq captured ∧
        (inRange32 c.tMeas → captured = c.tMeas) ∧ Stopped s t ∧
        UnchangedBut [.msg, .planner, .supply, .takeup, .cue, .chase, .protection, .freeDraws] s t) ∧
    (s.planner.transport = .estop → s.estopSettle ≤ min (s.protection.settleRun + 1) 65535 →
      exec .estopSettled s = .next
        { s with
          planner := { s.planner with
            transport := .braked, target := 0, vRef := 0, aRef := 0, refClass := .hold, dwell := 0, pinch := .released,
            mode := .none, capstanWaits := false, loc := { s.planner.loc with phase := .none } },
          supply := channelAtRest s.supply, takeup := channelAtRest s.takeup,
          protection := { s.protection with slackSup := 0, slackTak := 0, grace := 0, settleRun := 0 } })

/-- O60. OVERTENSION, SENSE_MISMATCH and TORQUE_SATURATED are counted in every state; they halt a moving transport,
flush HALTING and STOPPED. (Rests on: 11_protection_and_fault_handling.md sections 11.2, 11.3; 05_reel_channels.md
sections 5.5, 5.8, 5.9; 07_motion_requests_and_transport_states.md section 7.3; 08_locate.md section 8.4;
09_cue_table_and_record_gates.md section 9.4; 10_chase_synchronisation.md section 10.7; notes/assumptions/3.md;
notes/assumptions/7.md; notes/assumptions/14.md.) -/
def Obligations.FaultHaltConditionsHalt : Prop :=
  ∀ (reel : Reel) (raw : Int) (s : State), s.config.valid = true → RequestSuitsTransport s →
    let resting := s.planner.transport = .safe ∨ s.planner.transport = .braked ∨ s.planner.transport = .estop
    let c := s.channel reel
    let run := match reel with
      | .supply => s.protection.overSup
      | .takeup => s.protection.overTak
    let halts (i : Instr) (condition : Condition) (value : Int) (c' : ReelChannel) (run' : Nat) : Prop :=
      ∃ t captured, exec i s = .next t ∧ FaultNoted s t condition (some reel) s.ring.lastSeq captured ∧
        (inRange32 value → captured = value) ∧
        FaultHalted s (told s.msg 0xCB (match s.planner.active with | some r => r.tag | none => 0)
          ([condition.code, reelByte (some reel), s.planner.transport.code] ++ leIntBytes 4 captured)) t ∧
        t.channel reel = c' ∧
        (match reel with
          | .supply => t.takeup = s.takeup ∧ t.protection.overSup = run' ∧ t.protection.overTak = s.protection.overTak
          | .takeup => t.supply = s.supply ∧ t.protection.overTak = run' ∧ t.protection.overSup = s.protection.overSup) ∧
        UnchangedBut [.msg, .planner, .supply, .takeup, .cue, .chase, .protection, .freeDraws] s t
    (s.overLevel < c.tMeas → run < s.overFrames → s.overFrames ≤ run + 1 →
      halts (.overtension reel) .overtension c.tMeas c (run + 1)) ∧
    (c.mismatch = 2 →
      halts (.senseMismatch reel) .senseMismatch 3 { c with mismatch := 3, reelAcc := 0, idlerAcc := 0, age := 0 } run) ∧
    ((s.torqueLim reel : Int) < |raw| → c.satRun < s.satFrames → s.satFrames ≤ c.satRun + 1 → ¬ resting →
      halts (.torqueSaturated reel raw) .torqueSaturated raw { c with saturated := true, satRun := c.satRun + 1 } run) ∧
    (resting → exec (.torqueSaturated reel raw) s = .next s)
end

