-- ==== Sys2Proof/Laws/Arrivals.lean ====
section
/-! SUPPORT. What an arrival does before its departure, once for each sort of servo frame (R2 to R6), where a READ_REEL
stands in the work of a frame (R92), which position the readers of the record use (R106), and where an entry into ESTOP and a
late DWELL stay as they are (R184, R124). -/

namespace Sys2Proof.Machine

variable (f : Frame) (sched : Schedule) (s : State)

/-- R3: a damaged frame reaches no unit. -/
theorem arrivalWork_damaged (h : frameChecks f = false) : arrivalWork f sched s = arriveDamaged (restartTimer s) := by
  simp [arrivalWork, h]

/-- R4: neither does a repeated one. -/
theorem arrivalWork_repeated (h : frameChecks f = true) (hr : isRepeated f (restartTimer s) = true) :
    arrivalWork f sched s = arriveRepeated (restartTimer s) := by
  simp [arrivalWork, h, hr]

/-- R6: a good frame's work is done by every unit, after the Ring Port has sorted it. -/
theorem arrivalWork_good (h : frameChecks f = true) (hr : isRepeated f (restartTimer s) = false) :
    arrivalWork f sched s =
      unitWork f sched (delivery f (restartTimer s)) (arriveGood f (restartTimer s)) := by
  simp [arrivalWork, h, hr]

/-- The restart of the silence timer (R8) does not change which frames are repeated. -/
@[simp] theorem isRepeated_restartTimer : isRepeated f (restartTimer s) = isRepeated f s := by
  unfold restartTimer
  split <;> rfl

/-- A command that opens no configuration and asks for no reel runs in its turn. -/
theorem commandPlace_none (p : Progress) (rest : List Task) (h : opensAfterRecord f p = false)
    (hr : reelAsked f = none) : commandPlace f p rest = none := by
  simp [commandPlace, h, hr]

/-- R92: a READ_REEL that comes inside its channel's work runs after the torque. -/
theorem commandPlace_midway (p : Progress) (rest : List Task) (reel : Reel) (h : opensAfterRecord f p = false)
    (hr : reelAsked f = some reel) (hm : channelMidway reel rest = true) :
    commandPlace f p rest = some (afterTorque reel rest) := by
  simp [commandPlace, h, hr, hm]

/-- R106: as the Position Unit's work ends, the P it holds is the position after the record. -/
theorem positionWork_after (d : Delivery) : (positionWork d s).1.position.p = (positionWork d s).2.after := rfl

/-- R136: while P stands there, the D of an approach step is that of an activation. -/
theorem distanceFrom_after (m : MovementRecord) (h : s.position.p = m.after) : distanceFrom m.after s = locateDistance s := by
  rw [← h]
  rfl

/-- The settle run is that of a frame which found ESTOP: at any other, ESTOP stays (R184, R181; log 43). -/
@[simp] theorem settleStep_entry (d : Delivery) (h : d.foundEstop = false) : settleStep d s = s := by simp [settleStep, h]

/-- A DWELL taken at a HALT cue does not count the record the cue fired on (R124). -/
@[simp] theorem dwellStep_late : dwellStep true s = s := rfl

end Sys2Proof.Machine
end

