-- ==== Sys2Proof/Laws/Fields.lean ====
section
/-! SUPPORT. The little-endian fields: their length, and that reading a field gives what was written. -/

namespace Sys2Proof.Machine

@[simp] theorem leBytes_length (n x : Nat) : (leBytes n x).length = n := by
  induction n generalizing x with
  | zero => rfl
  | succ n ih => simp [leBytes, ih]

@[simp] theorem leIntBytes_length (n : Nat) (x : Int) : (leIntBytes n x).length = n := leBytes_length _ _

theorem leNat_lt (bs : List Byte) : leNat bs < 256 ^ bs.length := by
  induction bs with
  | nil => simp [leNat]
  | cons b bs ih => have := b.isLt; simp only [leNat, List.length_cons, pow_succ]; omega

/-- Reading n bytes written low byte first gives the number, modulo 256^n. -/
theorem leNat_leBytes (n x : Nat) : leNat (leBytes n x) = x % 256 ^ n := by
  induction n generalizing x with
  | zero => simp [leBytes, leNat, Nat.mod_one]
  | succ n ih =>
    have := Nat.mod_mul (x := x) (a := 256) (b := 256 ^ n)
    simp only [leBytes, leNat, ih, BitVec.toNat_ofNat, pow_succ']
    omega

/-- A signed number written in n bytes reads back modulo 256^n. -/
theorem leNat_leIntBytes (n : Nat) (x : Int) : (leNat (leIntBytes n x) : Int) = x % (256 ^ n : Nat) := by
  have h0 : (0 : Int) < (256 ^ n : Nat) := by positivity
  have h1 := Int.emod_lt_of_pos x h0
  have h2 := Int.emod_nonneg x h0.ne'
  rw [leIntBytes, leNat_leBytes, Nat.mod_eq_of_lt (by omega)]
  omega

/-- Writing what was read gives the bytes back. -/
theorem leBytes_leNat (bs : List Byte) : leBytes bs.length (leNat bs) = bs := by
  induction bs with
  | nil => rfl
  | cons b bs ih =>
    have hb := b.isLt
    have h1 : (b.toNat + 256 * leNat bs) / 256 = leNat bs := by omega
    simp only [List.length_cons, leBytes, leNat, h1, ih, List.cons.injEq, and_true]
    apply BitVec.eq_of_toNat_eq
    simpa using hb

theorem word16Bytes_length (w : Word16) : (word16Bytes w).length = 2 := leBytes_length _ _
theorem word32Bytes_length (w : Word32) : (word32Bytes w).length = 4 := leBytes_length _ _

/-- A servo frame is 48 bytes, of which the part forwards 28 and writes 18 (section 1.6). -/
@[simp] theorem frameHead_length (f : Frame) : (frameHead f).length = 28 := by
  simp [frameHead, word16Bytes, word32Bytes, quadBytes]

@[simp] theorem frameTail_length (f : Frame) : (frameTail f).length = 18 := by
  simp [frameTail, word16Bytes, quadBytes]

@[simp] theorem frameBytes_length (f : Frame) : (frameBytes f).length = 48 := by
  simp [frameBytes, frameBody, word16Bytes]

/-- A notice is its header and its data. -/
@[simp] theorem noticeMessage_length (code subject : Byte) (data : List Byte) :
    (noticeMessage code subject data).length = 3 + data.length := by simp [noticeMessage]; omega

/-- A reply is its header, RESULT and its data. -/
@[simp] theorem replyMessage_length (code tag : Byte) (r : Result) (data : List Byte) :
    (replyMessage code tag r data).length = 4 + data.length := by simp [replyMessage]; omega

/-- The Reel code names at most two reels. -/
theorem reelByte_some (r : Reel) : reelByte (some r) = reelCode r := rfl

end Sys2Proof.Machine
end

