-- ==== Sys2Proof/Laws/State.lean ====
section
/-! SUPPORT. One lemma per block per update of `State`: the block updated holds the new value, every other block its own. -/

namespace Sys2Proof.Machine

variable (s : State)

/-! The block `ring` replaced. -/

@[simp] theorem withRing_ring (x : Ring) : (s.withRing x).ring = x := rfl
@[simp] theorem withRing_msg (x : Ring) : (s.withRing x).msg = s.msg := rfl
@[simp] theorem withRing_config (x : Ring) : (s.withRing x).config = s.config := rfl
@[simp] theorem withRing_profile (x : Ring) : (s.withRing x).profile = s.profile := rfl
@[simp] theorem withRing_supply (x : Ring) : (s.withRing x).supply = s.supply := rfl
@[simp] theorem withRing_takeup (x : Ring) : (s.withRing x).takeup = s.takeup := rfl
@[simp] theorem withRing_position (x : Ring) : (s.withRing x).position = s.position := rfl
@[simp] theorem withRing_planner (x : Ring) : (s.withRing x).planner = s.planner := rfl
@[simp] theorem withRing_cue (x : Ring) : (s.withRing x).cue = s.cue := rfl
@[simp] theorem withRing_chase (x : Ring) : (s.withRing x).chase = s.chase := rfl
@[simp] theorem withRing_protection (x : Ring) : (s.withRing x).protection = s.protection := rfl
@[simp] theorem withRing_freeDraws (x : Ring) : (s.withRing x).freeDraws = s.freeDraws := rfl
@[simp] theorem withRing_pending (x : Ring) : (s.withRing x).pending = s.pending := rfl

/-! The block `msg` replaced. -/

@[simp] theorem withMsg_ring (x : MessageUnit) : (s.withMsg x).ring = s.ring := rfl
@[simp] theorem withMsg_msg (x : MessageUnit) : (s.withMsg x).msg = x := rfl
@[simp] theorem withMsg_config (x : MessageUnit) : (s.withMsg x).config = s.config := rfl
@[simp] theorem withMsg_profile (x : MessageUnit) : (s.withMsg x).profile = s.profile := rfl
@[simp] theorem withMsg_supply (x : MessageUnit) : (s.withMsg x).supply = s.supply := rfl
@[simp] theorem withMsg_takeup (x : MessageUnit) : (s.withMsg x).takeup = s.takeup := rfl
@[simp] theorem withMsg_position (x : MessageUnit) : (s.withMsg x).position = s.position := rfl
@[simp] theorem withMsg_planner (x : MessageUnit) : (s.withMsg x).planner = s.planner := rfl
@[simp] theorem withMsg_cue (x : MessageUnit) : (s.withMsg x).cue = s.cue := rfl
@[simp] theorem withMsg_chase (x : MessageUnit) : (s.withMsg x).chase = s.chase := rfl
@[simp] theorem withMsg_protection (x : MessageUnit) : (s.withMsg x).protection = s.protection := rfl
@[simp] theorem withMsg_freeDraws (x : MessageUnit) : (s.withMsg x).freeDraws = s.freeDraws := rfl
@[simp] theorem withMsg_pending (x : MessageUnit) : (s.withMsg x).pending = s.pending := rfl

/-! The block `config` replaced. -/

@[simp] theorem withConfig_ring (x : ConfigStore) : (s.withConfig x).ring = s.ring := rfl
@[simp] theorem withConfig_msg (x : ConfigStore) : (s.withConfig x).msg = s.msg := rfl
@[simp] theorem withConfig_config (x : ConfigStore) : (s.withConfig x).config = x := rfl
@[simp] theorem withConfig_profile (x : ConfigStore) : (s.withConfig x).profile = s.profile := rfl
@[simp] theorem withConfig_supply (x : ConfigStore) : (s.withConfig x).supply = s.supply := rfl
@[simp] theorem withConfig_takeup (x : ConfigStore) : (s.withConfig x).takeup = s.takeup := rfl
@[simp] theorem withConfig_position (x : ConfigStore) : (s.withConfig x).position = s.position := rfl
@[simp] theorem withConfig_planner (x : ConfigStore) : (s.withConfig x).planner = s.planner := rfl
@[simp] theorem withConfig_cue (x : ConfigStore) : (s.withConfig x).cue = s.cue := rfl
@[simp] theorem withConfig_chase (x : ConfigStore) : (s.withConfig x).chase = s.chase := rfl
@[simp] theorem withConfig_protection (x : ConfigStore) : (s.withConfig x).protection = s.protection := rfl
@[simp] theorem withConfig_freeDraws (x : ConfigStore) : (s.withConfig x).freeDraws = s.freeDraws := rfl
@[simp] theorem withConfig_pending (x : ConfigStore) : (s.withConfig x).pending = s.pending := rfl

/-! The block `profile` replaced. -/

@[simp] theorem withProfile_ring (x : ProfileUnit) : (s.withProfile x).ring = s.ring := rfl
@[simp] theorem withProfile_msg (x : ProfileUnit) : (s.withProfile x).msg = s.msg := rfl
@[simp] theorem withProfile_config (x : ProfileUnit) : (s.withProfile x).config = s.config := rfl
@[simp] theorem withProfile_profile (x : ProfileUnit) : (s.withProfile x).profile = x := rfl
@[simp] theorem withProfile_supply (x : ProfileUnit) : (s.withProfile x).supply = s.supply := rfl
@[simp] theorem withProfile_takeup (x : ProfileUnit) : (s.withProfile x).takeup = s.takeup := rfl
@[simp] theorem withProfile_position (x : ProfileUnit) : (s.withProfile x).position = s.position := rfl
@[simp] theorem withProfile_planner (x : ProfileUnit) : (s.withProfile x).planner = s.planner := rfl
@[simp] theorem withProfile_cue (x : ProfileUnit) : (s.withProfile x).cue = s.cue := rfl
@[simp] theorem withProfile_chase (x : ProfileUnit) : (s.withProfile x).chase = s.chase := rfl
@[simp] theorem withProfile_protection (x : ProfileUnit) : (s.withProfile x).protection = s.protection := rfl
@[simp] theorem withProfile_freeDraws (x : ProfileUnit) : (s.withProfile x).freeDraws = s.freeDraws := rfl
@[simp] theorem withProfile_pending (x : ProfileUnit) : (s.withProfile x).pending = s.pending := rfl

/-! The block `supply` replaced. -/

@[simp] theorem withSupply_ring (x : ReelChannel) : (s.withSupply x).ring = s.ring := rfl
@[simp] theorem withSupply_msg (x : ReelChannel) : (s.withSupply x).msg = s.msg := rfl
@[simp] theorem withSupply_config (x : ReelChannel) : (s.withSupply x).config = s.config := rfl
@[simp] theorem withSupply_profile (x : ReelChannel) : (s.withSupply x).profile = s.profile := rfl
@[simp] theorem withSupply_supply (x : ReelChannel) : (s.withSupply x).supply = x := rfl
@[simp] theorem withSupply_takeup (x : ReelChannel) : (s.withSupply x).takeup = s.takeup := rfl
@[simp] theorem withSupply_position (x : ReelChannel) : (s.withSupply x).position = s.position := rfl
@[simp] theorem withSupply_planner (x : ReelChannel) : (s.withSupply x).planner = s.planner := rfl
@[simp] theorem withSupply_cue (x : ReelChannel) : (s.withSupply x).cue = s.cue := rfl
@[simp] theorem withSupply_chase (x : ReelChannel) : (s.withSupply x).chase = s.chase := rfl
@[simp] theorem withSupply_protection (x : ReelChannel) : (s.withSupply x).protection = s.protection := rfl
@[simp] theorem withSupply_freeDraws (x : ReelChannel) : (s.withSupply x).freeDraws = s.freeDraws := rfl
@[simp] theorem withSupply_pending (x : ReelChannel) : (s.withSupply x).pending = s.pending := rfl

/-! The block `takeup` replaced. -/

@[simp] theorem withTakeup_ring (x : ReelChannel) : (s.withTakeup x).ring = s.ring := rfl
@[simp] theorem withTakeup_msg (x : ReelChannel) : (s.withTakeup x).msg = s.msg := rfl
@[simp] theorem withTakeup_config (x : ReelChannel) : (s.withTakeup x).config = s.config := rfl
@[simp] theorem withTakeup_profile (x : ReelChannel) : (s.withTakeup x).profile = s.profile := rfl
@[simp] theorem withTakeup_supply (x : ReelChannel) : (s.withTakeup x).supply = s.supply := rfl
@[simp] theorem withTakeup_takeup (x : ReelChannel) : (s.withTakeup x).takeup = x := rfl
@[simp] theorem withTakeup_position (x : ReelChannel) : (s.withTakeup x).position = s.position := rfl
@[simp] theorem withTakeup_planner (x : ReelChannel) : (s.withTakeup x).planner = s.planner := rfl
@[simp] theorem withTakeup_cue (x : ReelChannel) : (s.withTakeup x).cue = s.cue := rfl
@[simp] theorem withTakeup_chase (x : ReelChannel) : (s.withTakeup x).chase = s.chase := rfl
@[simp] theorem withTakeup_protection (x : ReelChannel) : (s.withTakeup x).protection = s.protection := rfl
@[simp] theorem withTakeup_freeDraws (x : ReelChannel) : (s.withTakeup x).freeDraws = s.freeDraws := rfl
@[simp] theorem withTakeup_pending (x : ReelChannel) : (s.withTakeup x).pending = s.pending := rfl

/-! The block `position` replaced. -/

@[simp] theorem withPosition_ring (x : PositionUnit) : (s.withPosition x).ring = s.ring := rfl
@[simp] theorem withPosition_msg (x : PositionUnit) : (s.withPosition x).msg = s.msg := rfl
@[simp] theorem withPosition_config (x : PositionUnit) : (s.withPosition x).config = s.config := rfl
@[simp] theorem withPosition_profile (x : PositionUnit) : (s.withPosition x).profile = s.profile := rfl
@[simp] theorem withPosition_supply (x : PositionUnit) : (s.withPosition x).supply = s.supply := rfl
@[simp] theorem withPosition_takeup (x : PositionUnit) : (s.withPosition x).takeup = s.takeup := rfl
@[simp] theorem withPosition_position (x : PositionUnit) : (s.withPosition x).position = x := rfl
@[simp] theorem withPosition_planner (x : PositionUnit) : (s.withPosition x).planner = s.planner := rfl
@[simp] theorem withPosition_cue (x : PositionUnit) : (s.withPosition x).cue = s.cue := rfl
@[simp] theorem withPosition_chase (x : PositionUnit) : (s.withPosition x).chase = s.chase := rfl
@[simp] theorem withPosition_protection (x : PositionUnit) : (s.withPosition x).protection = s.protection := rfl
@[simp] theorem withPosition_freeDraws (x : PositionUnit) : (s.withPosition x).freeDraws = s.freeDraws := rfl
@[simp] theorem withPosition_pending (x : PositionUnit) : (s.withPosition x).pending = s.pending := rfl

/-! The block `planner` replaced. -/

@[simp] theorem withPlanner_ring (x : Planner) : (s.withPlanner x).ring = s.ring := rfl
@[simp] theorem withPlanner_msg (x : Planner) : (s.withPlanner x).msg = s.msg := rfl
@[simp] theorem withPlanner_config (x : Planner) : (s.withPlanner x).config = s.config := rfl
@[simp] theorem withPlanner_profile (x : Planner) : (s.withPlanner x).profile = s.profile := rfl
@[simp] theorem withPlanner_supply (x : Planner) : (s.withPlanner x).supply = s.supply := rfl
@[simp] theorem withPlanner_takeup (x : Planner) : (s.withPlanner x).takeup = s.takeup := rfl
@[simp] theorem withPlanner_position (x : Planner) : (s.withPlanner x).position = s.position := rfl
@[simp] theorem withPlanner_planner (x : Planner) : (s.withPlanner x).planner = x := rfl
@[simp] theorem withPlanner_cue (x : Planner) : (s.withPlanner x).cue = s.cue := rfl
@[simp] theorem withPlanner_chase (x : Planner) : (s.withPlanner x).chase = s.chase := rfl
@[simp] theorem withPlanner_protection (x : Planner) : (s.withPlanner x).protection = s.protection := rfl
@[simp] theorem withPlanner_freeDraws (x : Planner) : (s.withPlanner x).freeDraws = s.freeDraws := rfl
@[simp] theorem withPlanner_pending (x : Planner) : (s.withPlanner x).pending = s.pending := rfl

/-! The block `cue` replaced. -/

@[simp] theorem withCue_ring (x : CueUnit) : (s.withCue x).ring = s.ring := rfl
@[simp] theorem withCue_msg (x : CueUnit) : (s.withCue x).msg = s.msg := rfl
@[simp] theorem withCue_config (x : CueUnit) : (s.withCue x).config = s.config := rfl
@[simp] theorem withCue_profile (x : CueUnit) : (s.withCue x).profile = s.profile := rfl
@[simp] theorem withCue_supply (x : CueUnit) : (s.withCue x).supply = s.supply := rfl
@[simp] theorem withCue_takeup (x : CueUnit) : (s.withCue x).takeup = s.takeup := rfl
@[simp] theorem withCue_position (x : CueUnit) : (s.withCue x).position = s.position := rfl
@[simp] theorem withCue_planner (x : CueUnit) : (s.withCue x).planner = s.planner := rfl
@[simp] theorem withCue_cue (x : CueUnit) : (s.withCue x).cue = x := rfl
@[simp] theorem withCue_chase (x : CueUnit) : (s.withCue x).chase = s.chase := rfl
@[simp] theorem withCue_protection (x : CueUnit) : (s.withCue x).protection = s.protection := rfl
@[simp] theorem withCue_freeDraws (x : CueUnit) : (s.withCue x).freeDraws = s.freeDraws := rfl
@[simp] theorem withCue_pending (x : CueUnit) : (s.withCue x).pending = s.pending := rfl

/-! The block `chase` replaced. -/

@[simp] theorem withChase_ring (x : ChaseUnit) : (s.withChase x).ring = s.ring := rfl
@[simp] theorem withChase_msg (x : ChaseUnit) : (s.withChase x).msg = s.msg := rfl
@[simp] theorem withChase_config (x : ChaseUnit) : (s.withChase x).config = s.config := rfl
@[simp] theorem withChase_profile (x : ChaseUnit) : (s.withChase x).profile = s.profile := rfl
@[simp] theorem withChase_supply (x : ChaseUnit) : (s.withChase x).supply = s.supply := rfl
@[simp] theorem withChase_takeup (x : ChaseUnit) : (s.withChase x).takeup = s.takeup := rfl
@[simp] theorem withChase_position (x : ChaseUnit) : (s.withChase x).position = s.position := rfl
@[simp] theorem withChase_planner (x : ChaseUnit) : (s.withChase x).planner = s.planner := rfl
@[simp] theorem withChase_cue (x : ChaseUnit) : (s.withChase x).cue = s.cue := rfl
@[simp] theorem withChase_chase (x : ChaseUnit) : (s.withChase x).chase = x := rfl
@[simp] theorem withChase_protection (x : ChaseUnit) : (s.withChase x).protection = s.protection := rfl
@[simp] theorem withChase_freeDraws (x : ChaseUnit) : (s.withChase x).freeDraws = s.freeDraws := rfl
@[simp] theorem withChase_pending (x : ChaseUnit) : (s.withChase x).pending = s.pending := rfl

/-! The block `protection` replaced. -/

@[simp] theorem withProtection_ring (x : ProtectionUnit) : (s.withProtection x).ring = s.ring := rfl
@[simp] theorem withProtection_msg (x : ProtectionUnit) : (s.withProtection x).msg = s.msg := rfl
@[simp] theorem withProtection_config (x : ProtectionUnit) : (s.withProtection x).config = s.config := rfl
@[simp] theorem withProtection_profile (x : ProtectionUnit) : (s.withProtection x).profile = s.profile := rfl
@[simp] theorem withProtection_supply (x : ProtectionUnit) : (s.withProtection x).supply = s.supply := rfl
@[simp] theorem withProtection_takeup (x : ProtectionUnit) : (s.withProtection x).takeup = s.takeup := rfl
@[simp] theorem withProtection_position (x : ProtectionUnit) : (s.withProtection x).position = s.position := rfl
@[simp] theorem withProtection_planner (x : ProtectionUnit) : (s.withProtection x).planner = s.planner := rfl
@[simp] theorem withProtection_cue (x : ProtectionUnit) : (s.withProtection x).cue = s.cue := rfl
@[simp] theorem withProtection_chase (x : ProtectionUnit) : (s.withProtection x).chase = s.chase := rfl
@[simp] theorem withProtection_protection (x : ProtectionUnit) : (s.withProtection x).protection = x := rfl
@[simp] theorem withProtection_freeDraws (x : ProtectionUnit) : (s.withProtection x).freeDraws = s.freeDraws := rfl
@[simp] theorem withProtection_pending (x : ProtectionUnit) : (s.withProtection x).pending = s.pending := rfl

/-! The block `freeDraws` replaced. -/

@[simp] theorem withFreeDraws_ring (x : Nat) : (s.withFreeDraws x).ring = s.ring := rfl
@[simp] theorem withFreeDraws_msg (x : Nat) : (s.withFreeDraws x).msg = s.msg := rfl
@[simp] theorem withFreeDraws_config (x : Nat) : (s.withFreeDraws x).config = s.config := rfl
@[simp] theorem withFreeDraws_profile (x : Nat) : (s.withFreeDraws x).profile = s.profile := rfl
@[simp] theorem withFreeDraws_supply (x : Nat) : (s.withFreeDraws x).supply = s.supply := rfl
@[simp] theorem withFreeDraws_takeup (x : Nat) : (s.withFreeDraws x).takeup = s.takeup := rfl
@[simp] theorem withFreeDraws_position (x : Nat) : (s.withFreeDraws x).position = s.position := rfl
@[simp] theorem withFreeDraws_planner (x : Nat) : (s.withFreeDraws x).planner = s.planner := rfl
@[simp] theorem withFreeDraws_cue (x : Nat) : (s.withFreeDraws x).cue = s.cue := rfl
@[simp] theorem withFreeDraws_chase (x : Nat) : (s.withFreeDraws x).chase = s.chase := rfl
@[simp] theorem withFreeDraws_protection (x : Nat) : (s.withFreeDraws x).protection = s.protection := rfl
@[simp] theorem withFreeDraws_freeDraws (x : Nat) : (s.withFreeDraws x).freeDraws = x := rfl
@[simp] theorem withFreeDraws_pending (x : Nat) : (s.withFreeDraws x).pending = s.pending := rfl

/-! The block `pending` replaced. -/

@[simp] theorem withPending_ring (x : List Instr) : (s.withPending x).ring = s.ring := rfl
@[simp] theorem withPending_msg (x : List Instr) : (s.withPending x).msg = s.msg := rfl
@[simp] theorem withPending_config (x : List Instr) : (s.withPending x).config = s.config := rfl
@[simp] theorem withPending_profile (x : List Instr) : (s.withPending x).profile = s.profile := rfl
@[simp] theorem withPending_supply (x : List Instr) : (s.withPending x).supply = s.supply := rfl
@[simp] theorem withPending_takeup (x : List Instr) : (s.withPending x).takeup = s.takeup := rfl
@[simp] theorem withPending_position (x : List Instr) : (s.withPending x).position = s.position := rfl
@[simp] theorem withPending_planner (x : List Instr) : (s.withPending x).planner = s.planner := rfl
@[simp] theorem withPending_cue (x : List Instr) : (s.withPending x).cue = s.cue := rfl
@[simp] theorem withPending_chase (x : List Instr) : (s.withPending x).chase = s.chase := rfl
@[simp] theorem withPending_protection (x : List Instr) : (s.withPending x).protection = s.protection := rfl
@[simp] theorem withPending_freeDraws (x : List Instr) : (s.withPending x).freeDraws = s.freeDraws := rfl
@[simp] theorem withPending_pending (x : List Instr) : (s.withPending x).pending = x := rfl

/-! ## The reel channels by name -/

@[simp] theorem channel_supply : s.channel .supply = s.supply := rfl
@[simp] theorem channel_takeup : s.channel .takeup = s.takeup := rfl
@[simp] theorem withChannel_supply (c : ReelChannel) : s.withChannel .supply c = s.withSupply c := rfl
@[simp] theorem withChannel_takeup (c : ReelChannel) : s.withChannel .takeup c = s.withTakeup c := rfl

@[simp] theorem withChannel_ring (r : Reel) (c : ReelChannel) : (s.withChannel r c).ring = s.ring := by cases r <;> rfl
@[simp] theorem withChannel_msg (r : Reel) (c : ReelChannel) : (s.withChannel r c).msg = s.msg := by cases r <;> rfl
@[simp] theorem withChannel_config (r : Reel) (c : ReelChannel) : (s.withChannel r c).config = s.config := by cases r <;> rfl
@[simp] theorem withChannel_profile (r : Reel) (c : ReelChannel) : (s.withChannel r c).profile = s.profile := by cases r <;> rfl
@[simp] theorem withChannel_position (r : Reel) (c : ReelChannel) : (s.withChannel r c).position = s.position := by cases r <;> rfl
@[simp] theorem withChannel_planner (r : Reel) (c : ReelChannel) : (s.withChannel r c).planner = s.planner := by cases r <;> rfl
@[simp] theorem withChannel_cue (r : Reel) (c : ReelChannel) : (s.withChannel r c).cue = s.cue := by cases r <;> rfl
@[simp] theorem withChannel_chase (r : Reel) (c : ReelChannel) : (s.withChannel r c).chase = s.chase := by cases r <;> rfl
@[simp] theorem withChannel_protection (r : Reel) (c : ReelChannel) : (s.withChannel r c).protection = s.protection := by cases r <;> rfl
@[simp] theorem withChannel_freeDraws (r : Reel) (c : ReelChannel) : (s.withChannel r c).freeDraws = s.freeDraws := by cases r <;> rfl
@[simp] theorem withChannel_pending (r : Reel) (c : ReelChannel) : (s.withChannel r c).pending = s.pending := by cases r <;> rfl

end Sys2Proof.Machine
end

