-- ==== Sys2Proof/Laws/Messages.lean ====
section
/-! SUPPORT. What the message operations do, once each: a reply queued or lost, a notice queued or dropped, a message
completed, discarded, or broken. -/

namespace Sys2Proof.Machine

/-! ## Notices -/

/-- R32: a notice changes the Message Unit alone, as `told` says. -/
theorem queueNotice_eq (code subject : Byte) (data : List Byte) (s : State) :
    queueNotice code subject data s = { s with msg := told s.msg code subject data } := by
  unfold queueNotice told
  by_cases h : s.msg.notices.length < 32
  · rw [if_pos h, if_pos (show s.msg.notices.length < Config.noticeCapacity from h)]; rfl
  · rw [if_neg h, if_neg (show ¬ s.msg.notices.length < Config.noticeCapacity from h)]; rfl

@[simp] theorem told_replies (m : MessageUnit) (code subject : Byte) (data : List Byte) :
    (told m code subject data).replies = m.replies := by unfold told; split <;> rfl
@[simp] theorem told_sending (m : MessageUnit) (code subject : Byte) (data : List Byte) :
    (told m code subject data).sending = m.sending := by unfold told; split <;> rfl
@[simp] theorem told_assembly (m : MessageUnit) (code subject : Byte) (data : List Byte) :
    (told m code subject data).assembly = m.assembly := by unfold told; split <;> rfl
@[simp] theorem told_broken (m : MessageUnit) (code subject : Byte) (data : List Byte) :
    (told m code subject data).broken = m.broken := by unfold told; split <;> rfl

/-- A notice joins the tail, where there is room. -/
theorem told_notices (m : MessageUnit) (code subject : Byte) (data : List Byte) (h : m.notices.length < 32) :
    (told m code subject data).notices = m.notices ++ [[code, subject, BitVec.ofNat 8 data.length] ++ data] := by
  simp [told, h]

/-- The notices waiting before a notice stand first after it. -/
theorem told_prefix (m : MessageUnit) (code subject : Byte) (data : List Byte) :
    m.notices <+: (told m code subject data).notices := by
  unfold told
  split
  · exact List.prefix_append _ _
  · exact List.prefix_refl _

/-- R32: the notice queue never grows past 32. -/
theorem told_bounded (m : MessageUnit) (code subject : Byte) (data : List Byte) (h : m.notices.length ≤ 32) :
    (told m code subject data).notices.length ≤ 32 := by
  unfold told
  split
  · simp; omega
  · exact h

/-! ## Replies -/

/-- R31: with room, a reply joins the tail of the reply queue. -/
theorem reply_ready (code tag : Byte) (r : Result) (data : List Byte) (s : State) (h : Ready s) :
    reply code tag r data s =
      { s with msg := { s.msg with replies := s.msg.replies ++ [replyMessage code tag r data] } } := by
  unfold Ready at h
  simp [reply, queueReply, Config.replyCapacity, h, State.withMsg]

/-- R31: with 4 replies waiting, a reply is lost and counted. -/
theorem reply_full (code tag : Byte) (r : Result) (data : List Byte) (s : State) (h : 4 ≤ s.msg.replies.length) :
    reply code tag r data s =
      { s with msg := { s.msg with overruns := min (s.msg.overruns + 1) 65535, overrunLatch := true } } := by
  have : ¬ s.msg.replies.length < 4 := by omega
  simp [reply, queueReply, countOverrun, Config.replyCapacity, this, State.withMsg, inc16, sat16]

/-- A reply changes neither the assembly nor the broken counter. -/
@[simp] theorem reply_assembly (code tag : Byte) (r : Result) (data : List Byte) (s : State) :
    (reply code tag r data s).msg.assembly = s.msg.assembly := by
  unfold reply queueReply countOverrun; split <;> rfl
@[simp] theorem reply_broken (code tag : Byte) (r : Result) (data : List Byte) (s : State) :
    (reply code tag r data s).msg.broken = s.msg.broken := by
  unfold reply queueReply countOverrun; split <;> rfl
@[simp] theorem reply_notices (code tag : Byte) (r : Result) (data : List Byte) (s : State) :
    (reply code tag r data s).msg.notices = s.msg.notices := by
  unfold reply queueReply countOverrun; split <;> rfl

/-- R31: the reply queue never grows past 4. -/
theorem reply_bounded (code tag : Byte) (r : Result) (data : List Byte) (s : State) (h : s.msg.replies.length ≤ 4) :
    (reply code tag r data s).msg.replies.length ≤ 4 := by
  unfold reply queueReply countOverrun Config.replyCapacity
  split
  · simp; omega
  · exact h

/-- R20: the assembly emptied. -/
theorem clearAssembly_eq (s : State) : clearAssembly s =
    { s with msg := { s.msg with assembly := .empty, buffer := [], fragments := 0, pauseRun := 0, handed := 0 } } := rfl

/-- A reply on the emptied assembly is an answer, where CODE is at most 3Fh. -/
theorem reply_answered (code tag : Byte) (r : Result) (data : List Byte) (s : State) (h : Ready s)
    (hc : code.toNat ≤ 0x3F) (he : clearAssembly s = s) :
    reply code tag r data s = { s with msg := answered s.msg code tag r.code data } := by
  rw [reply_ready _ _ _ _ _ h]
  have hm : s.msg = { s.msg with assembly := .empty, buffer := [], fragments := 0, pauseRun := 0, handed := 0 } :=
    (congrArg State.msg he).symm
  have hr : replyMessage code tag r data =
      [code + 0x80, tag, BitVec.ofNat 8 (1 + data.length), r.code] ++ data := by
    simp [replyMessage, replyCode, hc]
  rw [hr]
  conv => lhs; rw [hm]
  rfl

/-- R29: with room for its reply, a completed command of at most 61 parameter bytes runs on the emptied assembly. -/
theorem atCompletion_ready (code tag : Byte) (params : List Byte) (run : State → State) (s : State) (h : Ready s)
    (hl : params.length ≤ 61) : atCompletion code tag params run s = run (clearAssembly s) := by
  unfold Ready at h
  simp [atCompletion, Config.maxLen, Config.replyCapacity, h, Nat.not_lt.2 hl]

/-- R29: with 4 replies waiting it is discarded unexecuted. -/
theorem atCompletion_full (code tag : Byte) (params : List Byte) (run : State → State) (s : State)
    (h : 4 ≤ s.msg.replies.length) (hl : params.length ≤ 61) :
    atCompletion code tag params run s = countOverrun (clearAssembly s) := by
  have : ¬ s.msg.replies.length < 4 := by omega
  simp [atCompletion, Config.maxLen, Config.replyCapacity, this, Nat.not_lt.2 hl]

/-- A message of more than 61 parameter bytes is refused with BAD_LENGTH (R22). -/
theorem atCompletion_long (code tag : Byte) (params : List Byte) (run : State → State) (s : State)
    (hl : 61 < params.length) :
    atCompletion code tag params run s = reply code tag .badLength [] (clearAssembly s) := by
  simp [atCompletion, Config.maxLen, hl]

/-- A command whose reply is a refusal, made on the emptied assembly, refuses as `refusedWith` says. -/
theorem refuse_eq (code tag : Byte) (r : Result) (data : List Byte) (s : State) (h : Ready s)
    (hc : code.toNat ≤ 0x3F) : reply code tag r data (clearAssembly s) = refusedWith s code tag r.code data := by
  rw [reply_answered _ _ _ _ (clearAssembly s) h hc rfl]
  rfl

/-! ## Breaks -/

/-- R23, R26: a break leaves the assembly EMPTY. -/
theorem breakAssembly_empty (s : State) : (breakAssembly s).msg.assembly = .empty := by
  unfold breakAssembly
  cases h : s.msg.assembly
  · simpa using h
  · simp only [reply_assembly]; rfl
  · rfl

/-- R27: a break counts a message that was ASSEMBLING, and no other. -/
theorem breakAssembly_broken (s : State) : (breakAssembly s).msg.broken =
    if s.msg.assembly = .assembling then min (s.msg.broken + 1) 65535 else s.msg.broken := by
  unfold breakAssembly
  cases h : s.msg.assembly
  · simp
  · simp only [reply_broken]; rfl
  · rfl

/-- R26: a break in EMPTY has no effect. -/
theorem breakAssembly_of_empty (s : State) (h : s.msg.assembly = .empty) : breakAssembly s = s := by
  simp [breakAssembly, h]

end Sys2Proof.Machine
end

