-- ==== Sys2Proof/Laws/Frames.lean ====
section
/-! SUPPORT. Which parts of the state each shared operation can change: one lemma per operation, chained by `trans`. -/

namespace Sys2Proof.Machine

namespace UnchangedBut

variable {l m : List Part} {s t u : State}

theorem refl (l : List Part) (s : State) : UnchangedBut l s s := by
  intro p _; cases p <;> rfl

theorem trans (h : UnchangedBut l s t) (k : UnchangedBut l t u) : UnchangedBut l s u := by
  intro p hp
  have a := h p hp
  have b := k p hp
  cases p <;> exact b.trans a

/-- A shorter list of changed parts says more. -/
theorem mono (h : UnchangedBut l s t) (hs : ∀ p ∈ l, p ∈ m) : UnchangedBut m s t := fun p hp => h p fun hl => hp (hs p hl)

theorem ring (h : UnchangedBut l s t) (hp : Part.ring ∉ l := by decide) : t.ring = s.ring := h _ hp
theorem msg (h : UnchangedBut l s t) (hp : Part.msg ∉ l := by decide) : t.msg = s.msg := h _ hp
theorem config (h : UnchangedBut l s t) (hp : Part.config ∉ l := by decide) : t.config = s.config := h _ hp
theorem profile (h : UnchangedBut l s t) (hp : Part.profile ∉ l := by decide) : t.profile = s.profile := h _ hp
theorem supply (h : UnchangedBut l s t) (hp : Part.supply ∉ l := by decide) : t.supply = s.supply := h _ hp
theorem takeup (h : UnchangedBut l s t) (hp : Part.takeup ∉ l := by decide) : t.takeup = s.takeup := h _ hp
theorem position (h : UnchangedBut l s t) (hp : Part.position ∉ l := by decide) : t.position = s.position := h _ hp
theorem planner (h : UnchangedBut l s t) (hp : Part.planner ∉ l := by decide) : t.planner = s.planner := h _ hp
theorem cue (h : UnchangedBut l s t) (hp : Part.cue ∉ l := by decide) : t.cue = s.cue := h _ hp
theorem chase (h : UnchangedBut l s t) (hp : Part.chase ∉ l := by decide) : t.chase = s.chase := h _ hp
theorem protection (h : UnchangedBut l s t) (hp : Part.protection ∉ l := by decide) : t.protection = s.protection := h _ hp
theorem freeDraws (h : UnchangedBut l s t) (hp : Part.freeDraws ∉ l := by decide) : t.freeDraws = s.freeDraws := h _ hp
theorem pending (h : UnchangedBut l s t) (hp : Part.pending ∉ l := by decide) : t.pending = s.pending := h _ hp

end UnchangedBut

variable (s : State)

/-! ## One block replaced -/

theorem withRing_frame (x : Ring) : UnchangedBut [.ring] s (s.withRing x) := by intro p hp; cases p <;> first | rfl | simp at hp
theorem withMsg_frame (x : MessageUnit) : UnchangedBut [.msg] s (s.withMsg x) := by intro p hp; cases p <;> first | rfl | simp at hp
theorem withConfig_frame (x : ConfigStore) : UnchangedBut [.config] s (s.withConfig x) := by intro p hp; cases p <;> first | rfl | simp at hp
theorem withProfile_frame (x : ProfileUnit) : UnchangedBut [.profile] s (s.withProfile x) := by intro p hp; cases p <;> first | rfl | simp at hp
theorem withSupply_frame (x : ReelChannel) : UnchangedBut [.supply] s (s.withSupply x) := by intro p hp; cases p <;> first | rfl | simp at hp
theorem withTakeup_frame (x : ReelChannel) : UnchangedBut [.takeup] s (s.withTakeup x) := by intro p hp; cases p <;> first | rfl | simp at hp
theorem withPosition_frame (x : PositionUnit) : UnchangedBut [.position] s (s.withPosition x) := by intro p hp; cases p <;> first | rfl | simp at hp
theorem withPlanner_frame (x : Planner) : UnchangedBut [.planner] s (s.withPlanner x) := by intro p hp; cases p <;> first | rfl | simp at hp
theorem withCue_frame (x : CueUnit) : UnchangedBut [.cue] s (s.withCue x) := by intro p hp; cases p <;> first | rfl | simp at hp
theorem withChase_frame (x : ChaseUnit) : UnchangedBut [.chase] s (s.withChase x) := by intro p hp; cases p <;> first | rfl | simp at hp
theorem withProtection_frame (x : ProtectionUnit) : UnchangedBut [.protection] s (s.withProtection x) := by intro p hp; cases p <;> first | rfl | simp at hp
theorem withFreeDraws_frame (x : Nat) : UnchangedBut [.freeDraws] s (s.withFreeDraws x) := by intro p hp; cases p <;> first | rfl | simp at hp

theorem withChannel_frame (r : Reel) (c : ReelChannel) : UnchangedBut [.supply, .takeup] s (s.withChannel r c) := by
  cases r
  · exact (withSupply_frame s c).mono (by decide)
  · exact (withTakeup_frame s c).mono (by decide)

/-! ## Messages and free values -/

theorem fit32_frame (x : Int) : UnchangedBut [.freeDraws] s (fit32 x s).2 := by
  unfold fit32; split
  · exact .refl _ _
  · exact withFreeDraws_frame _ _

/-- A value that fits is taken as it is, and draws nothing. -/
theorem fit32_of_fits (x : Int) (h : inRange32 x) : fit32 x s = (x, s) := if_pos h

theorem drawNat_frame : UnchangedBut [.freeDraws] s (drawNat s).2 := withFreeDraws_frame _ _

theorem countOverrun_frame : UnchangedBut [.msg] s (countOverrun s) := withMsg_frame _ _

theorem reply_frame (code tag : Byte) (r : Result) (data : List Byte) : UnchangedBut [.msg] s (reply code tag r data s) := by
  unfold reply queueReply; split
  · exact withMsg_frame _ _
  · exact countOverrun_frame _

theorem queueNotice_frame (code subject : Byte) (data : List Byte) : UnchangedBut [.msg] s (queueNotice code subject data s) := by
  unfold queueNotice; split <;> exact withMsg_frame _ _

theorem clearAssembly_frame : UnchangedBut [.msg] s (clearAssembly s) := withMsg_frame _ _

theorem breakAssembly_frame : UnchangedBut [.msg] s (breakAssembly s) := by
  unfold breakAssembly; split
  · exact .refl _ _
  · exact clearAssembly_frame _
  · exact ((withMsg_frame _ _).trans (clearAssembly_frame _)).trans (reply_frame _ _ _ _ _)

/-! ## The planner's registers -/

theorem setTransport_frame (x : Transport) : UnchangedBut [.planner] s (setTransport x s) := withPlanner_frame _ _
theorem setTarget_frame (x : Int) : UnchangedBut [.planner] s (setTarget x s) := withPlanner_frame _ _
theorem setPinch_frame (x : Pinch) : UnchangedBut [.planner] s (setPinch x s) := withPlanner_frame _ _
theorem setLocate_frame (x : LocateRecord) : UnchangedBut [.planner] s (setLocate x s) := withPlanner_frame _ _
theorem retarget_frame : UnchangedBut [.planner] s (retarget s) := withPlanner_frame _ _
theorem startReleasing_frame : UnchangedBut [.planner] s (startReleasing s) := withPlanner_frame _ _
theorem startEngaging_frame : UnchangedBut [.planner] s (startEngaging s) := withPlanner_frame _ _
theorem clearPhase_frame : UnchangedBut [.planner] s (clearPhase s) := withPlanner_frame _ _

theorem callRelease_frame : UnchangedBut [.planner] s (callRelease s) := by
  unfold callRelease; split
  · exact startReleasing_frame _
  · exact .refl _ _

theorem holdAfterAppend_frame : UnchangedBut [.planner] s (holdAfterAppend s) := by
  unfold holdAfterAppend; split
  · exact withPlanner_frame _ _
  · exact .refl _ _

theorem holdAfterLeave_frame : UnchangedBut [.planner] s (holdAfterLeave s) := by
  unfold holdAfterLeave; split
  · exact withPlanner_frame _ _
  · exact .refl _ _

theorem appendRequest_frame (r : Request) : UnchangedBut [.planner] s (appendRequest r s) :=
  (withPlanner_frame _ _).trans (holdAfterAppend_frame _)

theorem enterHalting_frame : UnchangedBut [.planner] s (enterHalting s) :=
  (withPlanner_frame _ _).trans (callRelease_frame _)

theorem flushQueue_frame (cause : Byte) : UnchangedBut [.planner, .msg] s (flushQueue cause s) := by
  unfold flushQueue
  have h := (withPlanner_frame s { s.planner with queue := [], hold := false }).mono (m := [.planner, .msg]) (by decide)
  dsimp only
  split
  · exact h
  · exact h.trans ((queueNotice_frame _ _ _ _).mono (by decide))

/-! ## Gate lines and rest -/

theorem closeGates_frame : UnchangedBut [.cue] s (closeGates s) := withCue_frame _ _

theorem settleGates_frame (cause : Byte) : UnchangedBut [.cue, .msg] s (settleGates cause s) := by
  unfold settleGates; split
  · exact ((withCue_frame _ _).mono (by decide)).trans ((queueNotice_frame _ _ _ _).mono (by decide))
  · exact .refl _ _

theorem enterRest_frame (x : Transport) : UnchangedBut [.planner, .supply, .takeup, .protection] s (enterRest x s) := by
  intro p hp; cases p <;> first | rfl | simp at hp

/-! ## The Chase Unit and its orders -/

theorem setChaseState_frame (st : ChaseState) : UnchangedBut [.chase] s (setChaseState st s) := withChase_frame _ _

theorem queueSync_frame (prev : ChaseState) (cause : Byte) : UnchangedBut [.msg] s (queueSync prev cause s) :=
  queueNotice_frame _ _ _ _

theorem enterChase_frame (st : ChaseState) (cause : Byte) : UnchangedBut [.chase, .msg] s (enterChase st cause s) :=
  ((setChaseState_frame s st).mono (by decide)).trans ((queueSync_frame _ _ _).mono (by decide))

theorem trimLaw_frame (e : Int) : UnchangedBut [.chase] s (trimLaw e s) := withChase_frame _ _

theorem enterCruise_frame (reverse : Bool) : UnchangedBut [.planner] s (enterCruise reverse s) :=
  (setLocate_frame _ _).trans (setTarget_frame _ _)

theorem enterPark_frame : UnchangedBut [.planner] s (enterPark s) := (setLocate_frame _ _).trans (setTarget_frame _ _)

theorem beginApproach_frame : UnchangedBut [.planner] s (beginApproach s) := by
  unfold beginApproach; split
  · exact (setLocate_frame _ _).trans (enterPark_frame _)
  · exact enterCruise_frame _ _

theorem startRequestLocate_frame (r : Request) : UnchangedBut [.planner] s (startRequestLocate r s) :=
  (setLocate_frame _ _).trans (beginApproach_frame _)

theorem retargetInternal_frame : UnchangedBut [.planner] s (retargetInternal s) := by
  unfold retargetInternal; dsimp only; split
  · exact (setLocate_frame _ _).trans (enterPark_frame _)
  · split
    · exact enterCruise_frame _ _
    · exact (setLocate_frame _ _).trans (setTarget_frame _ _)

theorem openDirection_frame : UnchangedBut [.planner, .freeDraws] s (openDirection s) :=
  ((drawNat_frame s).mono (by decide)).trans ((setLocate_frame _ _).mono (by decide))

theorem plannerLocate_frame (address : Int) : UnchangedBut [.planner, .freeDraws] s (plannerLocate address s) := by
  unfold plannerLocate; split
  · dsimp only; split
    · exact (setLocate_frame _ _).mono (by decide)
    · exact ((setLocate_frame _ _).trans (retargetInternal_frame _)).mono (by decide)
  · dsimp only; split
    · exact ((withPlanner_frame _ _).trans (beginApproach_frame _)).mono (by decide)
    · exact (((withPlanner_frame _ _).mono (by decide)).trans (openDirection_frame _)).trans
        ((callRelease_frame _).mono (by decide))

theorem dropInternal_frame : UnchangedBut [.planner] s (dropInternal s) := by
  unfold dropInternal; split
  · exact clearPhase_frame _
  · exact .refl _ _

theorem plannerHold_frame : UnchangedBut [.planner] s (plannerHold s) :=
  ((dropInternal_frame _).trans (withPlanner_frame _ _)).trans (callRelease_frame _)

theorem plannerCapstan_frame : UnchangedBut [.planner] s (plannerCapstan s) := by
  unfold plannerCapstan
  have h := (dropInternal_frame s).trans (withPlanner_frame _
    { (dropInternal s).planner with mode := .capstan, capstanWaits := (dropInternal s).planner.pinch == .released })
  dsimp only
  split
  · exact (h.trans (startEngaging_frame _)).trans (retarget_frame _)
  · exact (h.trans (setPinch_frame _ _)).trans (retarget_frame _)
  · exact h.trans (retarget_frame _)

theorem orderLocate_frame (address : Int) : UnchangedBut [.chase, .planner, .freeDraws] s (orderLocate address s) :=
  ((withChase_frame _ _).mono (by decide)).trans ((plannerLocate_frame _ _).mono (by decide))

theorem orderHold_frame : UnchangedBut [.chase, .planner] s (orderHold s) :=
  ((withChase_frame _ _).mono (by decide)).trans ((plannerHold_frame _).mono (by decide))

theorem orderCapstan_frame (speed : Nat) : UnchangedBut [.chase, .planner] s (orderCapstan speed s) :=
  ((withChase_frame _ _).mono (by decide)).trans ((plannerCapstan_frame _).mono (by decide))

theorem makeChoice_frame : UnchangedBut [.chase, .planner, .freeDraws] s (makeChoice s) := by
  have h := (setChaseState_frame s (chosenState s)).mono (m := [.chase, .planner, .freeDraws]) (by decide)
  unfold makeChoice
  dsimp only
  split
  · exact h.trans ((orderHold_frame _).mono (by decide))
  · split
    · exact h.trans (orderLocate_frame _ _)
    · exact h.trans ((orderCapstan_frame _ _).mono (by decide))
    · exact h.trans (orderLocate_frame _ _)

theorem chooseAnew_frame (cause : ChaseState → Byte) :
    UnchangedBut [.chase, .planner, .freeDraws, .msg] s (chooseAnew cause s) := by
  unfold chooseAnew
  have h := (makeChoice_frame s).mono (m := [.chase, .planner, .freeDraws, .msg]) (by decide)
  dsimp only
  split
  · exact h
  · exact h.trans ((queueSync_frame _ _ _).mono (by decide))

theorem activateChase_frame (r : Request) : UnchangedBut [.chase, .planner, .freeDraws, .msg] s (activateChase r s) :=
  (((withChase_frame _ _).mono (by decide)).trans ((makeChoice_frame _).mono (by decide))).trans
    ((queueSync_frame _ _ _).mono (by decide))

theorem endChase_frame (cause : Byte) : UnchangedBut [.chase, .msg] s (endChase cause s) := by
  unfold endChase; split
  · exact .refl _ _
  · exact ((withChase_frame _ _).mono (by decide)).trans ((queueSync_frame _ _ _).mono (by decide))

theorem reportParked_frame : UnchangedBut [.chase, .planner, .msg] s (reportParked s) := by
  unfold reportParked
  have h := (withChase_frame s { s.chase with locatePending := false }).mono (m := [.chase, .planner, .msg]) (by decide)
  dsimp only
  split
  · exact ((h.trans ((setChaseState_frame _ _).mono (by decide))).trans ((orderCapstan_frame _ _).mono (by decide))).trans
      ((queueSync_frame _ _ _).mono (by decide))
  · exact h

/-! ## Requests -/

theorem settleLocate_frame (r : Request) (x : EndResult) : UnchangedBut [.planner] s (settleLocate r x s) := by
  unfold settleLocate; split
  · exact (clearPhase_frame _).trans (withPlanner_frame _ _)
  · exact .refl _ _

theorem leaveChaseMode_frame : UnchangedBut [.planner] s (leaveChaseMode s) :=
  (dropInternal_frame _).trans (withPlanner_frame _ _)

theorem endActive_frame (x : EndResult) (follows : Bool) : UnchangedBut [.planner, .msg, .chase] s (endActive x follows s) := by
  unfold endActive
  split
  · exact .refl _ _
  · rename_i r _
    have h := ((((withPlanner_frame s { s.planner with active := none, dwell := 0 }).trans
      (settleLocate_frame _ r x)).mono (m := [.planner, .msg, .chase]) (by decide))).trans
        ((queueNotice_frame _ 0xC4 r.tag [r.kind.code, x.code]).mono (by decide))
    dsimp only
    split
    · split
      · exact h.trans ((leaveChaseMode_frame _).mono (by decide))
      · exact (h.trans ((leaveChaseMode_frame _).mono (by decide))).trans ((endChase_frame _ _).mono (by decide))
    · exact h

theorem takeRecord_frame (r : Request) (rest : List Request) : UnchangedBut [.planner, .msg] s (takeRecord r rest s) :=
  ((((withPlanner_frame _ _).trans (holdAfterLeave_frame _)).trans (withPlanner_frame _ _)).mono (by decide)).trans
    ((queueNotice_frame _ _ _ _).mono (by decide))

theorem activationChecks_frame (r : Request) : UnchangedBut [.planner, .msg, .chase] s (activationChecks r s).1 := by
  have h : UnchangedBut [.planner, .msg, .chase] s (if r.kind = .locate then startRequestLocate r s else s) := by
    split
    · exact (startRequestLocate_frame _ _).mono (by decide)
    · exact .refl _ _
  have k := (h.trans (endActive_frame _ .endOfTape false)).trans
    ((retarget_frame _).mono (m := [.planner, .msg, .chase]) (by decide))
  unfold activationChecks
  dsimp only
  generalize (if r.kind = .locate then startRequestLocate r s else s) = u at h k ⊢
  by_cases h0 : r.kind = .locate ∧ s.position.track = .absent
  · rw [if_pos h0]; exact endActive_frame _ _ _
  · rw [if_neg h0]; split
    · exact k
    · exact h

theorem takeIn_frame (r : Request) (rest : List Request) : UnchangedBut [.planner, .msg, .chase] s (takeIn r rest s).1 :=
  ((takeRecord_frame s r rest).mono (by decide)).trans (activationChecks_frame _ _)

theorem startRequest_frame (r : Request) : UnchangedBut [.planner, .msg, .chase, .freeDraws] s (startRequest r s) := by
  unfold startRequest
  split
  · exact (((setTransport_frame _ _).trans (startEngaging_frame _)).trans (retarget_frame _)).mono (by decide)
  · exact ((setTransport_frame _ _).trans (retarget_frame _)).mono (by decide)
  · exact (setTransport_frame _ _).mono (by decide)
  · exact ((setTransport_frame _ _).mono (by decide)).trans ((activateChase_frame _ _).mono (by decide))
  · exact .refl _ _
  · exact (withPlanner_frame _ _).mono (by decide)

theorem takeQueue_frame (q : List Request) : ∀ s, UnchangedBut [.planner, .msg, .chase, .freeDraws] s (takeQueue q s) := by
  induction q with
  | nil => intro s; exact .refl _ _
  | cons r rest ih =>
    intro s
    have h := (takeIn_frame s r rest).mono (m := [.planner, .msg, .chase, .freeDraws]) (by decide)
    unfold takeQueue
    split
    · rename_i s1 e; rw [e] at h; exact h.trans (ih _)
    · rename_i s1 e
      rw [e] at h
      split
      · exact (h.trans ((endActive_frame _ _ _).mono (by decide))).trans (ih _)
      · exact h.trans (startRequest_frame _ _)

theorem takeHead_frame : UnchangedBut [.planner, .msg, .chase, .freeDraws] s (takeHead s) := by
  unfold takeHead; split
  · exact takeQueue_frame _ _
  · exact .refl _ _

theorem enterStopped_frame : UnchangedBut [.planner, .msg, .chase, .freeDraws] s (enterStopped s) :=
  (((setTransport_frame _ _).trans (retarget_frame _)).mono (by decide)).trans (takeHead_frame _)

theorem continueMotion_frame (r : Request) : UnchangedBut [.planner, .msg, .chase, .freeDraws, .cue] s (continueMotion r s) := by
  have h := ((setTransport_frame s r.kind.transport).mono (m := [.planner, .msg, .chase, .freeDraws, .cue]) (by decide)).trans
    ((settleGates_frame _ 1).mono (by decide))
  unfold continueMotion
  dsimp only
  split
  · exact (h.trans ((activateChase_frame _ _).mono (by decide))).trans ((settleGates_frame _ _).mono (by decide))
  · exact h.trans ((retarget_frame _).mono (by decide))

theorem endMoving_frame (x : EndResult) : UnchangedBut [.planner, .msg, .chase, .freeDraws, .cue] s (endMoving x s) := by
  have halt : ∀ u, UnchangedBut [.planner, .msg, .chase, .freeDraws, .cue] u (settleGates 1 (enterHalting u)) := fun u =>
    ((enterHalting_frame u).mono (by decide)).trans ((settleGates_frame _ _).mono (by decide))
  have stop : ∀ b u, UnchangedBut [.planner, .msg, .chase, .freeDraws, .cue] u (endActive x b u) := fun b u =>
    (endActive_frame u x b).mono (by decide)
  unfold endMoving
  dsimp only
  split
  · exact .refl _ _
  · split
    · split
      · exact (stop _ _).trans (halt _)
      · rename_i head rest _
        split
        · have h := (stop (head.kind == .chase) s).trans ((takeIn_frame _ head rest).mono (by decide))
          split
          · rename_i e; rw [e] at h; exact h.trans (continueMotion_frame _ _)
          · rename_i e; rw [e] at h; exact h.trans (halt _)
        · exact (stop _ _).trans (halt _)
    · exact (stop _ _).trans (halt _)

/-! ## Orders and conditions -/

theorem orderEstop_frame (x : EndResult) :
    UnchangedBut [.planner, .msg, .chase, .cue, .supply, .takeup, .protection] s (orderEstop x s) := by
  have h := (flushQueue_frame s 3).mono (m := [.planner, .msg, .chase, .cue, .supply, .takeup, .protection]) (by decide)
  unfold orderEstop
  dsimp only
  split
  · exact .refl _ _
  · split
    · exact h
    · exact ((h.trans ((endActive_frame _ _ _).mono (by decide))).trans ((enterRest_frame _ _).mono (by decide))).trans
        ((settleGates_frame _ _).mono (by decide))

theorem orderHalt_frame (x : EndResult) (flushes : Bool) :
    UnchangedBut [.planner, .msg, .chase, .cue, .freeDraws] s (orderHalt x flushes s) := by
  have h : UnchangedBut [.planner, .msg, .chase, .cue, .freeDraws] s (if flushes then flushQueue 3 s else s) := by
    split
    · exact (flushQueue_frame _ _).mono (by decide)
    · exact .refl _ _
  have k := h.trans ((endActive_frame _ x false).mono (by decide))
  unfold orderHalt
  dsimp only
  split <;> first
    | exact .refl _ _
    | exact h
    | exact k.trans ((takeHead_frame _).mono (by decide))
    | exact (k.trans ((enterHalting_frame _).mono (by decide))).trans ((settleGates_frame _ _).mono (by decide))

theorem fillRecord_frame (c : Condition) (reel : Option Reel) (seq : Byte) (captured : Int) :
    UnchangedBut [.protection] s (fillRecord c reel seq captured s) := by
  unfold fillRecord; split
  · exact withProtection_frame _ _
  · exact .refl _ _

theorem noteFault_frame (c : Condition) (reel : Option Reel) (seq : Byte) (captured : Int) :
    UnchangedBut [.protection, .msg] s (noteFault c reel seq captured s) :=
  ((((withProtection_frame _ _).trans (fillRecord_frame _ _ _ _ _)).trans (withProtection_frame _ _)).mono (by decide)).trans
    ((queueNotice_frame _ _ _ _).mono (by decide))

theorem raise_frame (c : Condition) (reel : Option Reel) (seq : Byte) (captured : Int) :
    UnchangedBut [.planner, .msg, .chase, .cue, .supply, .takeup, .protection, .freeDraws] s
      (raise c reel seq captured s) := by
  have h := (((fit32_frame s captured).mono (m := [.planner, .msg, .chase, .cue, .supply, .takeup, .protection, .freeDraws])
    (by decide)).trans ((noteFault_frame _ c reel seq (fit32 captured s).1).mono (by decide)))
  unfold raise giveOrder
  split
  · exact h.trans ((orderEstop_frame _ _).mono (by decide))
  · exact h.trans ((orderHalt_frame _ _ _).mono (by decide))

end Sys2Proof.Machine
end

