-- ==== Sys2Proof/Laws/Notices.lean ====
section
/-! SUPPORT. The notices an order queues, each once: the end of a request, a flush of the queue and the closing of the gate
lines, in the terms of the statements (Safety.lean). -/

namespace Sys2Proof.Machine

variable (s : State)

/-- R173, R174: the return of the Chase Unit to IDLE tells so, unless it is IDLE. -/
theorem endChase_msg (x : EndResult) : (endChase (chaseEndCause x) s).msg = toldIdle x.code s s.msg := by
  unfold endChase toldIdle
  split
  · rfl
  · rw [queueSync, queueNotice_eq]
    cases x <;> rfl

/-- R119, R173: the end of the active request tells REQUEST_DONE, and of a CHASE the return to IDLE after it. -/
theorem endActive_msg (x : EndResult) : (endActive x false s).msg = toldEnd x.code s s.msg := by
  have hs : ∀ (r : Request) (u : State), (settleLocate r x u).msg = u.msg ∧ (settleLocate r x u).chase = u.chase := by
    intro r u
    unfold settleLocate
    split <;> exact ⟨rfl, rfl⟩
  have hl : ∀ u : State, (leaveChaseMode u).msg = u.msg ∧ (leaveChaseMode u).chase = u.chase := by
    intro u
    unfold leaveChaseMode dropInternal
    dsimp only
    split <;> exact ⟨rfl, rfl⟩
  unfold endActive toldEnd
  cases s.planner.active with
  | none => rfl
  | some r =>
    dsimp only
    split
    · simp only [Bool.false_eq_true, if_false, endChase_msg, toldIdle, hl, queueNotice_eq, hs]
      rfl
    · simp only [queueNotice_eq, hs]
      rfl

/-- R117: a flush tells QUEUE_FLUSHED where it removes records. -/
theorem flushQueue_msg (cause : Byte) : (flushQueue cause s).msg = toldFlush cause s s.msg := by
  unfold flushQueue toldFlush
  cases h : s.planner.queue with
  | nil => simp
  | cons r rest => simp [queueNotice_eq]

/-- R161: the lines that a state no longer enables close, and GATES_CLOSED tells of those that were open. -/
theorem settleGates_msg (cause : Byte) (h : gatesEnabled s = false) :
    (settleGates cause s).msg = toldGates cause s s.msg := by
  unfold settleGates toldGates
  by_cases hg : s.cue.gates = 0
  · rw [if_neg (fun k => k.1 hg), if_pos hg]
  · rw [if_pos ⟨hg, h⟩, if_neg hg, queueNotice_eq]
    rfl

end Sys2Proof.Machine
end

