-- ==== Sys2Proof/Laws/Orders.lean ====
section
/-! SUPPORT. What the orders to the planner and the occurrence of a condition do, once each: the end of the active request, the
flush, ESTOP, HALTING, the first-fault record. -/

namespace Sys2Proof.Machine

variable (s : State)

/-! ## Notices keep their order -/

/-- The notices of s stand first in t. -/
def NoticesKept (s t : State) : Prop := s.msg.notices <+: t.msg.notices

theorem NoticesKept.refl : NoticesKept s s := List.prefix_refl _

variable {s} in
theorem NoticesKept.trans {t u : State} (h : NoticesKept s t) (k : NoticesKept t u) : NoticesKept s u := List.IsPrefix.trans h k

variable {s} in
/-- A change outside the Message Unit keeps them. -/
theorem NoticesKept.of_frame {t : State} {l : List Part} (h : UnchangedBut l s t) (hp : Part.msg ∉ l := by decide) :
    NoticesKept s t := by unfold NoticesKept; rw [h.msg hp]

theorem queueNotice_kept (code subject : Byte) (data : List Byte) : NoticesKept s (queueNotice code subject data s) := by
  unfold NoticesKept; rw [queueNotice_eq]; exact told_prefix _ _ _ _

theorem flushQueue_kept (cause : Byte) : NoticesKept s (flushQueue cause s) := by
  unfold flushQueue
  dsimp only
  split
  · exact NoticesKept.refl _
  · exact queueNotice_kept (s.withPlanner { s.planner with queue := [], hold := false }) _ _ _

theorem settleGates_kept (cause : Byte) : NoticesKept s (settleGates cause s) := by
  unfold settleGates
  split
  · exact queueNotice_kept (s.withCue { s.cue with gates := 0 }) _ _ _
  · exact NoticesKept.refl _

theorem endChase_kept (cause : Byte) : NoticesKept s (endChase cause s) := by
  unfold endChase
  split
  · exact NoticesKept.refl _
  · unfold queueSync
    exact (NoticesKept.of_frame (withChase_frame s _)).trans (queueNotice_kept _ _ _ _)

theorem endActive_kept (x : EndResult) (follows : Bool) : NoticesKept s (endActive x follows s) := by
  unfold endActive
  split
  · exact NoticesKept.refl _
  · rename_i r _
    have h : NoticesKept s (queueNotice 0xC4 r.tag [r.kind.code, x.code]
        (settleLocate r x (s.withPlanner { s.planner with active := none, dwell := 0 }))) :=
      (NoticesKept.of_frame ((withPlanner_frame s _).trans (settleLocate_frame _ r x))).trans (queueNotice_kept _ _ _ _)
    dsimp only
    split
    · split
      · exact h.trans (NoticesKept.of_frame (leaveChaseMode_frame _))
      · exact (h.trans (NoticesKept.of_frame (leaveChaseMode_frame _))).trans (endChase_kept _ _)
    · exact h

theorem orderEstop_kept (x : EndResult) : NoticesKept s (orderEstop x s) := by
  unfold orderEstop
  dsimp only
  split
  · exact NoticesKept.refl _
  · split
    · exact flushQueue_kept _ _
    · exact (((flushQueue_kept s 3).trans (endActive_kept _ _ _)).trans (NoticesKept.of_frame (enterRest_frame _ _))).trans
        (settleGates_kept _ _)

/-! ## The end of a request -/

/-- R119: no request is active after one has ended. -/
theorem endActive_active (x : EndResult) (follows : Bool) : (endActive x follows s).planner.active = none := by
  unfold endActive
  split
  · assumption
  · rename_i r _
    have h : (queueNotice 0xC4 r.tag [r.kind.code, x.code]
        (settleLocate r x (s.withPlanner { s.planner with active := none, dwell := 0 }))).planner.active = none := by
      rw [(queueNotice_frame _ _ _ _).planner]
      unfold settleLocate
      split <;> rfl
    dsimp only
    split
    · have k : ∀ u : State, u.planner.active = none → (leaveChaseMode u).planner.active = none := by
        intro u hu; unfold leaveChaseMode dropInternal; dsimp only; split <;> exact hu
      split
      · exact k _ h
      · rw [(endChase_frame _ _).planner]; exact k _ h
    · exact h

/-- What the end of a request leaves of the planner's motion registers. -/
structure SameMotion (s t : State) : Prop where
  transport : t.planner.transport = s.planner.transport
  queue : t.planner.queue = s.planner.queue
  hold : t.planner.hold = s.planner.hold
  target : t.planner.target = s.planner.target
  vRef : t.planner.vRef = s.planner.vRef
  aRef : t.planner.aRef = s.planner.aRef
  refClass : t.planner.refClass = s.planner.refClass
  leading : t.planner.leading = s.planner.leading
  haltingClass : t.planner.haltingClass = s.planner.haltingClass
  pinch : t.planner.pinch = s.planner.pinch
  ratio : t.planner.ratio = s.planner.ratio
  capCommand : t.planner.capCommand = s.planner.capCommand

theorem endActive_motion (x : EndResult) (follows : Bool) : SameMotion s (endActive x follows s) := by
  unfold endActive
  split
  · constructor <;> rfl
  · rename_i r _
    have h : SameMotion s (queueNotice 0xC4 r.tag [r.kind.code, x.code]
        (settleLocate r x (s.withPlanner { s.planner with active := none, dwell := 0 }))) := by
      have e := (queueNotice_frame (settleLocate r x (s.withPlanner { s.planner with active := none, dwell := 0 })) 0xC4 r.tag
        [r.kind.code, x.code]).planner
      unfold settleLocate at e ⊢
      split at e
      · rename_i hk; rw [if_pos hk]; constructor <;> (rw [e]; rfl)
      · rename_i hk; rw [if_neg hk]; constructor <;> (rw [e]; rfl)
    have k : ∀ u : State, SameMotion s u → SameMotion s (leaveChaseMode u) := by
      intro u hu
      unfold leaveChaseMode dropInternal
      dsimp only
      split <;> exact ⟨hu.1, hu.2, hu.3, hu.4, hu.5, hu.6, hu.7, hu.8, hu.9, hu.10, hu.11, hu.12⟩
    dsimp only
    split
    · split
      · exact k _ h
      · have hu := k _ h
        constructor <;> rw [(endChase_frame _ _).planner]
        exacts [hu.1, hu.2, hu.3, hu.4, hu.5, hu.6, hu.7, hu.8, hu.9, hu.10, hu.11, hu.12]
    · exact h

/-- R173: a CHASE that ends, with no CHASE after it, leaves the Chase Unit IDLE. -/
theorem endActive_chase_idle (x : EndResult) (r : Request) (h : s.planner.active = some r) (hk : r.kind = .chase) :
    (endActive x false s).chase.state = .idle := by
  unfold endActive
  simp only [h, hk, if_true, Bool.false_eq_true, if_false]
  unfold endChase
  split
  · assumption
  · rw [queueSync, queueNotice_eq]; rfl

/-- The Chase Unit is left alone by the end of any other request. -/
theorem endActive_chase_kept (x : EndResult) (follows : Bool) (h : ∀ r, s.planner.active = some r → r.kind ≠ .chase) :
    (endActive x follows s).chase = s.chase := by
  unfold endActive
  split
  · rfl
  · rename_i r hr
    dsimp only
    rw [if_neg (h r hr), (queueNotice_frame _ _ _ _).chase, (settleLocate_frame _ _ _).chase]
    rfl

/-- R142: the resume address a LOCATE that ends leaves. -/
theorem endActive_resume (x : EndResult) (follows : Bool) (r : Request) (h : s.planner.active = some r)
    (hk : r.kind = .locate) (hx : x ≠ .noPosition) :
    (endActive x follows s).planner.resume = resumeAfter r x s.planner.resume := by
  unfold endActive
  simp only [h, hk]
  rw [if_neg (by decide), (queueNotice_frame _ _ _ _).planner]
  simp only [settleLocate, hk, true_and, if_pos hx]
  rfl

/-! ## The flush, and ESTOP -/

/-- R117: what a flush does. -/
theorem flushQueue_eq (cause : Byte) : flushQueue cause s =
    { s with
      planner := { s.planner with queue := [], hold := false },
      msg := if s.planner.queue = [] then s.msg
        else told s.msg 0xC5 0 [BitVec.ofNat 8 s.planner.queue.length, cause] } := by
  unfold flushQueue
  dsimp only
  by_cases h : s.planner.queue = []
  · simp [h, State.withPlanner]
  · have : ¬ s.planner.queue.length = 0 := by simpa using h
    rw [if_neg this, if_neg h, queueNotice_eq]
    rfl

/-- R112: an ESTOP order outside SAFE and ESTOP stops the transport. -/
theorem orderEstop_stopped (x : EndResult) (h1 : s.planner.transport ≠ .safe) (h2 : s.planner.transport ≠ .estop) :
    Stopped s (orderEstop x s) := by
  have hf := flushQueue_eq s 3
  unfold orderEstop
  rw [if_neg h1]
  dsimp only
  rw [if_neg h2]
  generalize hu : flushQueue 3 s = u at hf ⊢
  have hm := endActive_motion u x false
  have ha := endActive_active u x false
  have hfr := endActive_frame u x false
  have hc : (if (s.planner.active.map (·.kind)) = some .chase then (endActive x false u).chase.state = .idle
      else (endActive x false u).chase = s.chase) := by
    have hact : u.planner.active = s.planner.active := by rw [hf]
    have hch : u.chase = s.chase := by rw [hf]
    split
    · rename_i hk
      cases hr : s.planner.active with
      | none => simp [hr] at hk
      | some r => exact endActive_chase_idle u x r (hact.trans hr) (by simpa [hr] using hk)
    · rename_i hk
      rw [endActive_chase_kept u x false, hch]
      intro r hr hrk
      rw [hact] at hr
      exact hk (by simp [hr, hrk])
  generalize endActive x false u = v at hm ha hfr hc ⊢
  have hg : gatesEnabled (enterRest .estop v) = false := by simp [gatesEnabled, enterRest, State.withProtection,
    State.withSupply, State.withTakeup, State.withPlanner]
  have hcue : (settleGates 1 (enterRest .estop v)).cue = { s.cue with gates := 0 } := by
    have hvc : (enterRest .estop v).cue = s.cue := by
      rw [(enterRest_frame v .estop).cue, hfr.cue, hf]
    unfold settleGates
    by_cases hz : (enterRest .estop v).cue.gates ≠ 0
    · rw [if_pos ⟨hz, hg⟩, (queueNotice_frame _ _ _ _).cue]
      simp [hvc]
    · rw [if_neg (fun h => hz h.1), hvc]
      rw [hvc] at hz
      have : s.cue.gates = 0 := by simpa using hz
      rw [← this]
  have hs := settleGates_frame (enterRest .estop v) 1
  have hp : (settleGates 1 (enterRest .estop v)).planner = (enterRest .estop v).planner := hs.planner
  have hsup : v.supply = s.supply := by rw [hfr.supply, hf]
  have htak : v.takeup = s.takeup := by rw [hfr.takeup, hf]
  refine ⟨?_, ?_, ?_, ?_, ?_, ?_, ?_, ?_, ?_, ?_, ?_, ?_, ?_, ?_, ?_, ?_, ?_, ?_, ?_⟩
  · rw [hp]; rfl
  · rw [hp]; exact ha
  · rw [hp]; exact hm.queue.trans (by rw [hf])
  · rw [hp]; exact hm.hold.trans (by rw [hf])
  · rw [hp]; rfl
  · rw [hp]; rfl
  · rw [hp]; rfl
  · rw [hp]; rfl
  · rw [hp]; rfl
  · rw [hp]; rfl
  · rw [hp]; rfl
  · rw [hp]; exact hm.ratio.trans (by rw [hf])
  · rw [hp]; exact hm.leading.trans (by rw [hf])
  · rw [hp]; exact hm.capCommand.trans (by rw [hf])
  · rw [hs.supply, ← hsup]; rfl
  · rw [hs.takeup, ← htak]; rfl
  · rw [hcue]
  · rw [hcue]
  · rw [hs.chase, (enterRest_frame v .estop).chase]; exact hc

/-! ## HALTING -/

/-- R125: entry into HALTING, with the lines closed, from any state with no active request. -/
theorem enterHalting_halted (h : s.planner.active = none) : Halted s (settleGates 1 (enterHalting s)) := by
  have hs := settleGates_frame (enterHalting s) 1
  have hc : (enterHalting s).cue = s.cue := (enterHalting_frame s).cue
  have hp : ∀ u : State, (callRelease u).planner.transport = u.planner.transport ∧
      (callRelease u).planner.active = u.planner.active ∧ (callRelease u).planner.target = u.planner.target ∧
      (callRelease u).planner.haltingClass = u.planner.haltingClass ∧ (callRelease u).planner.vRef = u.planner.vRef := by
    intro u; unfold callRelease; split <;> exact ⟨rfl, rfl, rfl, rfl, rfl⟩
  obtain ⟨p1, p2, p3, p4, p5⟩ := hp (s.withPlanner { s.planner with
    transport := .halting, haltingClass := s.planner.refClass, target := 0, mode := .none, capstanWaits := false })
  have hg : gatesEnabled (enterHalting s) = false := by
    unfold gatesEnabled enterHalting; rw [p1]; rfl
  have hcue : (settleGates 1 (enterHalting s)).cue = { s.cue with gates := 0 } := by
    unfold settleGates
    by_cases hz : (enterHalting s).cue.gates ≠ 0
    · rw [if_pos ⟨hz, hg⟩, (queueNotice_frame _ _ _ _).cue]
      simp [hc]
    · rw [if_neg (fun h => hz h.1), hc]
      rw [hc] at hz
      have : s.cue.gates = 0 := by simpa using hz
      rw [← this]
  unfold Halted
  rw [hcue, hs.planner]
  unfold enterHalting
  exact ⟨p1, p2.trans h, p3, p4, p5, rfl, rfl⟩

variable {s} in
/-- HALTING judged from an earlier state with the same reference and cue table. -/
theorem Halted.of {u t : State} (h : Halted u t) (h1 : u.planner.refClass = s.planner.refClass)
    (h2 : u.planner.vRef = s.planner.vRef) (h3 : u.cue.entries = s.cue.entries) : Halted s t :=
  ⟨h.1, h.2.1, h.2.2.1, h.2.2.2.1.trans h1, h.2.2.2.2.1.trans h2, h.2.2.2.2.2.1, h.2.2.2.2.2.2.trans h3⟩

/-- R112: a halt order in a moving state halts. -/
theorem orderHalt_halted (x : EndResult) (flushes : Bool) (h : Moving s) : Halted s (orderHalt x flushes s) := by
  have hf := flushQueue_eq s 3
  have key : orderHalt x flushes s =
      settleGates 1 (enterHalting (endActive x false (if flushes then flushQueue 3 s else s))) := by
    unfold orderHalt
    dsimp only
    rcases h with h | h | h | h <;> rw [h]
  rw [key]
  have hu : ∃ u, u = (if flushes then flushQueue 3 s else s) ∧ u.planner.refClass = s.planner.refClass ∧
      u.planner.vRef = s.planner.vRef ∧ u.cue = s.cue := by
    refine ⟨_, rfl, ?_, ?_, ?_⟩ <;> split <;> first | rfl | rw [hf]
  obtain ⟨u, hu, u1, u2, u3⟩ := hu
  rw [← hu]
  have hm := endActive_motion u x false
  refine (enterHalting_halted _ (endActive_active u x false)).of (hm.refClass.trans u1) (hm.vRef.trans u2) ?_
  rw [(endActive_frame u x false).cue, u3]

/-! ## Conditions -/

/-- R182 steps 1 to 4: the occurrence as noted, before its order. -/
theorem noteFault_noted (c : Condition) (reel : Option Reel) (seq : Byte) (captured : Int) :
    FaultNoted s (noteFault c reel seq captured s) c reel seq captured := by
  have hidx : c.code.toNat = c.index + 1 := by cases c <;> rfl
  have hlt : c.index < 10 := by cases c <;> decide
  have hfill : ∀ u : State, (fillRecord c reel seq captured u).planner = u.planner ∧
      (fillRecord c reel seq captured u).msg = u.msg ∧
      (fillRecord c reel seq captured u).protection.flags = u.protection.flags ∧
      (fillRecord c reel seq captured u).protection.counters = u.protection.counters ∧
      (fillRecord c reel seq captured u).protection.record =
        if u.protection.flags = 0 ∧ u.planner.transport ≠ .estop then
          some { condition := c, reel := reel, seq := seq, p := u.position.p, transport := u.planner.transport,
                 captured := captured }
        else u.protection.record := by
    intro u; unfold fillRecord; split <;> exact ⟨rfl, rfl, rfl, rfl, rfl⟩
  unfold noteFault
  dsimp only
  obtain ⟨f1, f2, f3, f4, f5⟩ := hfill (s.withProtection { s.protection with
    counters := s.protection.counters.setIfInBounds c.index (inc16 (s.protection.counters.toList.getD c.index 0)) })
  generalize fillRecord c reel seq captured _ = u at f1 f2 f3 f4 f5 ⊢
  rw [queueNotice_eq]
  refine ⟨?_, ?_, ?_, ?_⟩
  · simp [f3, hidx]
  · intro n
    simp only [withProtection_protection, f4]
    rw [hidx]
    by_cases hn : n = c.index
    · subst hn
      simp [List.getD_eq_getElem?_getD, hlt, inc16, sat16]
    · have : ¬ n + 1 = c.index + 1 := by omega
      rw [if_neg this]
      simp [List.getD_eq_getElem?_getD, Ne.symm hn]
  · simpa using f5
  · intro hroom
    have hact : activeTag (u.withProtection { u.protection with
        flags := u.protection.flags ||| BitVec.ofNat 16 (2 ^ c.index) }) =
        (match s.planner.active with | some r => r.tag | none => 0) := by
      unfold activeTag; (simp only [withProtection_planner, f1]) <;> rfl
    have hm : (u.withProtection { u.protection with
        flags := u.protection.flags ||| BitVec.ofNat 16 (2 ^ c.index) }).msg = s.msg := by
      simp [f2]
    rw [hact]
    simp only [hm, withProtection_planner, f1]
    (rw [told_notices _ _ _ _ hroom]) <;> exact List.prefix_refl _

variable {s} in
/-- What an order does after the notes leaves them as they are. -/
theorem FaultNoted.of {u t : State} {c : Condition} {reel : Option Reel} {seq : Byte} {captured : Int}
    (h : FaultNoted s u c reel seq captured) (h1 : t.protection.flags = u.protection.flags)
    (h2 : t.protection.counters = u.protection.counters) (h3 : t.protection.record = u.protection.record)
    (h4 : NoticesKept u t) : FaultNoted s t c reel seq captured :=
  ⟨h1.trans h.1, fun n => by rw [h2]; exact h.2.1 n, h3.trans h.2.2.1, fun hr => (h.2.2.2 hr).trans h4⟩

end Sys2Proof.Machine
end

