-- ==== Sys2Proof/WellFormed.lean ====
section
/-! DEFINITION. What a command's operands must be for it to be one the part can meet. -/

namespace Sys2Proof

open Sys2Proof.Machine

/-- A command of the controller carries at most 61 parameter bytes (R20, R22). -/
def paramsFit (params : List Byte) : Bool := decide (params.length ≤ Config.maxLen)

/-- Well-formed operands: a foreign frame is none of KIND A5h, a servo frame is one (R1) with a legal schedule (log 2); a lapse
grows by one frame, or by the missing frames, if any, of the good one that ends it (R5, R18); an unknown command's CODE is
unassigned (R30). -/
def Instr.wf (i : Instr) : Bool :=
  match i with
  | .foreignFrame f => f.kind != servoKind
  | .servoFrameArrival f sched => f.kind == servoKind && scheduleLegal sched
  | .senseLost growth goodSeq => goodSeq.isSome || growth == 1
  | .unknownCommand code _ params => !codeAssigned code && paramsFit params
  | .readRing _ params | .identify _ params | .readMessaging _ params | .restart _ params | .configWrite _ params
  | .configCommit _ params | .configOpen _ params | .configClear _ params | .configRead _ params | .profileWindow _ params
  | .profileData _ params | .profileSelect _ params | .profileClear _ params | .profileRead _ params | .readReel _ params
  | .setPosition _ params | .readPosition _ params | .queueMotion _ params | .stopNow _ params | .flush _ params
  | .setVarispeed _ params | .resume _ params | .readTransport _ params | .cueWrite _ params | .cueWriteMany _ params
  | .cueArm _ params | .cueDisarm _ params | .cueClear _ params | .cueRead _ params | .setOffset _ params
  | .readSync _ params | .readFaults _ params | .estop _ params | .release _ params => paramsFit params
  | .powerOn | .silenceExpiry | .pauseTimeout | .radiusWindowStale _ | .senseMismatch _ | .torqueSaturated _ _
  | .trackAgeExpiry | .supersession | .pinchEngaged | .pinchReleased | .dwellExpiry | .haltComplete | .locateParked
  | .locateTimeout | .internalLocateActivate | .lockQualified _ | .stableQualified _ | .refLost | .slack _
  | .overtension _ | .estopSettled => true

end Sys2Proof
end

