-- ==== Sys2Proof/Tests/Slice0.lean ====
section
/-! SUPPORT. Small tests of the model: well-formedness refusals, figures the manual works out, and for each statement with
hypotheses a state and operands that meet them. -/

namespace Sys2Proof.Tests

open Sys2Proof.Machine

/- One theorem after another: the kernel checks below otherwise wait in a thread each. -/
set_option Elab.async false

/-! ## Helpers: the example configuration of section 3.3, and small states -/

def stored (contents : List Byte) : Block := { present := true, contents := contents }

/-- Two 12-bit points in three bytes (R43). -/
def packPoints : List Nat → List Byte
  | a :: b :: rest =>
    [BitVec.ofNat 8 a, BitVec.ofNat 8 (a / 256 + 16 * (b % 16)), BitVec.ofNat 8 (b / 16)] ++ packPoints rest
  | _ => []

/-- The supply curve, with points 8 and 9 of section 5.12, then the take-up curve. -/
def curvePoints : List Nat :=
  [0, 29, 58, 87, 116, 145, 174, 203, 236, 268, 298, 328, 358, 388, 418, 448, 478] ++ (List.range 17).map (30 * ·)

def exampleStore : ConfigStore :=
  { valid := true
    geometry := stored (leBytes 4 166886 ++ leBytes 4 166886 ++ [500, 1780, 1100, 40, 1024, 400].flatMap (leBytes 2) ++ [8])
    track := stored (leBytes 2 150 ++ leBytes 4 0 ++ leBytes 2 6 ++ leBytes 2 200)
    speeds := stored ([975, 1950, 38400, 2560, 256, 2200, 120, 80].flatMap (leBytes 2))
    loops := stored (leBytes 2 512 ++ leBytes 2 64 ++ leBytes 4 2000000 ++ [96, 2, 8000, 8000].flatMap (leBytes 2))
    protect := stored ([40, 20, 400, 900, 40, 120].flatMap (leBytes 2) ++ [4] ++ [2000, 800, 16].flatMap (leBytes 2))
    curves := stored (packPoints curvePoints)
    motion := stored ([12, 4] ++ [1100, 2000, 20].flatMap (leBytes 2) ++ leBytes 4 0)
    chase := stored (leBytes 4 25600 ++ leBytes 4 1280 ++ leBytes 4 64 ++ leBytes 4 256 ++
      [400, 4000, 16, 205, 200].flatMap (leBytes 2) ++ leBytes 4 512) }

/-- The bands of sections 4.7 and 5.12. -/
def exampleProfile : Profile :=
  { bands := ((((Vector.replicate 32 Band.unwritten).set 2 ⟨180, 260, 120, 30, 16⟩).set 3 ⟨190, 270, 120, 30, 16⟩).set 17
      ⟨240, 300, 150, 40, 20⟩).set 18 ⟨260, 280, 150, 42, 20⟩
    written := 0xFFFFFFFF
    complete := true }

/-- A VALID part in a transport state, with tape present and the example profile active. -/
def inTransport (x : Transport) : State :=
  { State.reset with
    config := exampleStore
    ring := { Ring.initial with baseline := true, lastSeq := 39, timer := .running, tapePresent := true }
    profile := { ProfileUnit.initial with profiles := Vector.replicate 4 exampleProfile }
    position := { PositionUnit.initial with track := .coasting }
    planner := { Planner.initial with transport := x } }

def request (kind : RequestKind) : Request :=
  { kind := kind, tag := 7, speedB := false, reverse := false, untilAt := none, speed := 1000, frames := 5, target := 25600,
    offset := 0, errors := { speedClamped := false, untilBehind := false, offsetClamped := false } }

/-- A VALID part carrying out a request. -/
def carrying (x : Transport) (kind : RequestKind) : State :=
  let s := inTransport x
  { s with planner := { s.planner with active := some (request kind) } }

/-- A servo frame of zeros but for SEQ, with its check made. -/
def blankFrame (seq : Byte) : Frame :=
  sealFrame
    { seq := seq, kind := 0xA5, supTach := 0, takTach := 0, idler := 0, supArm := 0, takArm := 0, track := 0, edges := 1,
      byte17 := 0, ref := 0, refFlags := 0, cmdMark := 0, cmdData := ⟨0, 0, 0, 0⟩, supTorque := 0, takTorque := 0,
      capSpeed := 0, driveFlags := 0, gates := 0, rplMark := 0, rplData := ⟨0, 0, 0, 0⟩, status0 := 0, status1 := 0,
      bytes44 := 0, crc := 0 }

/-- The same frame with its check spoilt. -/
def damagedFrame (seq : Byte) : Frame := { blankFrame seq with crc := (blankFrame seq).crc + 1 }

/-- A good IDLE frame, SEQ 40 after 39, with some of its fields. -/
def goodFrame (change : Frame → Frame) : Frame := sealFrame (change (blankFrame 40))

def replied (o : Host.Outcome State Fault Refusal) : List (List Byte) :=
  match o with
  | .next t => t.msg.replies
  | _ => []

def after (o : Host.Outcome State Fault Refusal) : State :=
  match o with
  | .next t => t
  | _ => State.reset

/-! ## Well-formedness: an ill-formed term for each check -/

theorem test_wf_foreign_servo_kind : (Instr.foreignFrame (blankFrame 1)).wf = false := by decide +kernel
theorem test_wf_servo_other_kind : (Instr.servoFrameArrival { blankFrame 1 with kind := 0x5A } canonicalSchedule).wf = false := by
  decide +kernel
theorem test_wf_schedule_short : (Instr.servoFrameArrival (blankFrame 1) ⟨[.command], false⟩).wf = false := by decide +kernel
/-- R70: a channel's torque follows its window. -/
theorem test_wf_schedule_order :
    (Instr.servoFrameArrival (blankFrame 1) ⟨canonicalOrder.reverse, false⟩).wf = false := by decide +kernel
theorem test_wf_servo_accepted : (Instr.servoFrameArrival (blankFrame 1) canonicalSchedule).wf = true := by decide +kernel
/-- R5, R18: a good frame may end a lapse without a missing frame; a bad frame adds one. -/
theorem test_wf_growth_zero : (Instr.senseLost 0 none).wf = false ∧ (Instr.senseLost 0 (some 5)).wf = true := by decide
/-- R5: only a good frame adds more than one. -/
theorem test_wf_growth_two : (Instr.senseLost 2 none).wf = false := by decide
theorem test_wf_code_assigned : (Instr.unknownCommand 0x01 0 []).wf = false := by decide
theorem test_wf_params_long : (Instr.estop 0 (List.replicate 62 0)).wf = false := by decide
theorem test_wf_params_accepted : (Instr.estop 0 (List.replicate 61 0)).wf = true := by decide

/-- The opcode table gives its rows no bits, so no word spells a command. -/
theorem test_decode_none : decodeTableWord 32 0x12345678 = none := rfl

/-! ## Figures the manual works out -/

/-- R19 is the CRC known as CRC-16/CMS, whose check value over the ASCII digits 1 to 9 is AEE7h. -/
theorem test_crc_digits : crc ((List.range 9).map fun i => BitVec.ofNat 8 (0x31 + i)) = 0xAEE7 := by decide +kernel
/-- R4: SEQ 9 after 10. -/
theorem test_gap_backwards :
    seqGap (blankFrame 9) { State.reset with ring := { Ring.initial with lastSeq := 10 } } = 254 := by decide +kernel
/-- Section 1.7, the short lapse: L 2 and d 1 stand, SEQ 43 after 40. -/
def shortLapse : State :=
  let s := inTransport .braked
  { s with ring := { s.ring with lastSeq := 40, lapse := 2, damagedRun := 1, damaged := 1, repeated := 1 } }
theorem test_lapse_short : (after (exec (.servoFrameArrival (blankFrame 43) canonicalSchedule) shortLapse)).ring.missing = 1 ∧
    (delivery (blankFrame 43) shortLapse).k = 3 := by decide +kernel
/-- Section 1.7, the long lapse: L 3 and d 3 stand, SEQ 49 after 43. -/
def longLapse : State :=
  let s := inTransport .braked
  { s with ring := { s.ring with lastSeq := 43, lapse := 3, damagedRun := 3 } }
theorem test_lapse_long : (after (exec (.servoFrameArrival (blankFrame 49) canonicalSchedule) longLapse)).protection.flags = 0x100 ∧
    (delivery (blankFrame 49) longLapse).k = 1 := by decide +kernel
/-- R18: a lapse of 5, within the HOLD_LIMIT it grew under but beyond the 4 committed since, is tested at the good frame that
ends it, with no frame missing. -/
def standingLapse : State :=
  let s := inTransport .braked
  { s with ring := { s.ring with lapse := 5, damagedRun := 5 } }
theorem test_lapse_standing :
    (after (exec (.servoFrameArrival (blankFrame 45) canonicalSchedule) standingLapse)).protection.flags = 0x100 := by
  decide +kernel
/-- R14: a damaged frame departs with UPSTREAM_DAMAGED, BRAKED in STATUS0. -/
theorem test_damaged_departs :
    (after (exec (.servoFrameArrival (damagedFrame 40) canonicalSchedule) (inTransport .braked))).ring.out.getD 41 0 = 0x81 := by
  decide +kernel
/-- R4: the last good SEQ again. -/
theorem test_repeated_counts :
    (after (exec (.servoFrameArrival (blankFrame 39) canonicalSchedule) (inTransport .braked))).ring.repeated = 1 := by
  decide +kernel
/-- R1: a foreign frame leaves as it came. -/
theorem test_foreign_forwarded :
    (after (exec (.foreignFrame { blankFrame 40 with kind := 0x5A }) (inTransport .braked))).ring.out.take 2 = [40, 0x5A] := by
  decide +kernel

/-- Section 5.12, linearisation. -/
theorem test_linearise : linearise (inTransport .play) .supply 2100 = 243 := by decide +kernel
/-- Section 5.5, the example after R75. -/
theorem test_radius : nextRadius (inTransport .play) .supply 1100 1024 7540 = 1125 := by decide +kernel
/-- Section 4.7: WIND at r = 1205, PLAY at r = 1200, and a_lim of the two reels. -/
theorem test_lookup_truncates : tensionTarget (inTransport .wind) .wind 1205 = 288 := by decide +kernel
theorem test_lookup_play : tensionTarget (inTransport .play) .play 1200 = 250 := by decide +kernel

/-- Section 5.12: both channels on arrival, the reference of the previous departure. -/
def accelerating : State :=
  let s := carrying .play .play
  { s with
    planner := { s.planner with aRef := 6, refClass := .play, leading := .takeup }
    supply := { ReelChannel.initial with radius := 1200, known := true, tMeas := 243, tSet := 250, integrator := 10240 }
    takeup := { ReelChannel.initial with radius := 600, known := true, tMeas := 183, tSet := 185, integrator := 4096 } }
theorem test_torque_supply : (torqueWork .supply accelerating).supply.torque = 2999 ∧
    (torqueWork .supply accelerating).supply.integrator = 10688 := by decide +kernel
theorem test_torque_takeup : (torqueWork .takeup accelerating).takeup.torque = 1126 ∧
    (torqueWork .takeup accelerating).takeup.integrator = 4224 := by decide +kernel
theorem test_accel_limit : accelLimit accelerating = 16 := by decide +kernel
/-- R88: TORQUE_SENSE_SUP negates the field. -/
theorem test_torque_field : torqueField (torqueWork .supply accelerating) .supply = BitVec.ofInt 16 (-2999) := by decide +kernel

/-- Section 6.2: v_meas 960, a delta of 4 over one frame. -/
theorem test_speed : nextSpeed 960 4 1 = 976 := by decide
/-- Section 8.2: the budget of a locate to sector 12,000 from P = 0. -/
theorem test_locate_budget : locateBudget (inTransport .stopped) 1800000 = 14890 := by decide +kernel
/-- Section 8.3: braking from full spool speed. -/
theorem test_stop_distance : stopDistance 38400 16 = 180000 ∧ stopMargin 38400 = 150 := by decide
/-- Section 10.5: the trim law at e = 100 and e = −200 with a speed basis of 975. -/
def chasing : State :=
  let s := carrying .chase .chase
  { s with chase := { s.chase with state := .phase, basis := 975 } }
theorem test_trim_up : (trimLaw 100 chasing).chase.trim = 6 ∧ (trimLaw 100 chasing).chase.supplied = 976 := by decide +kernel
theorem test_trim_down : (trimLaw (-200) chasing).chase.trim = -13 ∧ (trimLaw (-200) chasing).chase.supplied = 972 := by
  decide +kernel
/-- Section 10.3: REF advances 52 over 8 frames. -/
theorem test_reference_speed :
    measuredSpeed chasing [52, 45, 39, 32, 26, 19, 13, 6, 0] = some 975 := by decide +kernel
/-- Section 7.11: the ratio 4232 gives +332, and the play target 1007. -/
theorem test_varispeed : obtainedVarispeed 4232 = 332 ∧
    playTarget { inTransport .play with planner := { Planner.initial with ratio := 4232 } } false = 1007 := by decide +kernel

/-! ## One command, one step -/

/-- R92: a READ_REEL that comes between a channel's window and its torque replies as after both. -/
theorem test_read_reel_whole :
    let f := sealFrame { blankFrame 40 with supArm := 2100, cmdMark := 4, cmdData := ⟨0x20, 5, 1, 0⟩ }
    let others : List Task := [.takeupWindow, .position, .planner, .cue, .chase, .protection, .settle]
    let ordered (first last : List Task) := (arrivalWork f ⟨first ++ others ++ last, false⟩ accelerating).msg.replies
    ordered [.supplyWindow, .command] [.supplyTorque, .takeupTorque] =
        ordered [.supplyWindow] [.supplyTorque, .command, .takeupTorque] ∧
      ordered [.supplyWindow] [.supplyTorque, .command, .takeupTorque] ≠
        ordered [.command, .supplyWindow] [.supplyTorque, .takeupTorque] := by
  decide +kernel
/-- R50: an absent block reads as zeros. -/
theorem test_config_read_absent :
    ((replied (exec (.configRead 5 [3]) { State.reset with config :=
      { exampleStore with speeds := { exampleStore.speeds with present := false } } })).map (List.take 22)) =
      [[0x94, 5, 21, 0, 3, 0] ++ List.replicate 16 0] := by decide +kernel

/-- R46: the example configuration commits; R47: the reply and the notice. -/
theorem test_commit : replied (exec (.configCommit 9 []) { inTransport .safe with config := { exampleStore with valid := false } }) =
    [[0x91, 9, 1, 0]] := by decide +kernel
/-- R43, R44: the example curves lie in their ranges. -/
theorem test_curves_fit : badField 6 exampleStore.curves.contents = none := by decide +kernel
/-- R44: field 1 of block 3 is 0. -/
theorem test_bad_field : badField 3 ([0, 0] ++ exampleStore.speeds.contents.drop 2) = some 1 := by decide +kernel
/-- R30. -/
theorem test_unknown : replied (exec (.unknownCommand 0x77 5 []) State.reset) = [[0xBF, 5, 1, 0x10]] := by decide +kernel
/-- R36: LEN 10. -/
theorem test_identify : replied (exec (.identify 5 []) State.reset) = [[0x88, 5, 10, 0, 0x58, 0x0D, 1, 0xFF, 16, 32, 4, 32, 8]] := by
  decide +kernel
/-- Section 4.7's profile cannot be cleared while active and VALID (R60). -/
theorem test_profile_clear_in_use : replied (exec (.profileClear 5 [0]) (inTransport .stopped)) = [[0x9B, 5, 1, 0x16]] := by
  decide +kernel
/-- R113, R120: a PLAY queued in STOPPED becomes active at once. -/
theorem test_play_starts :
    (after (exec (.queueMotion 1 [1, 7, 0, 0, 0, 0, 0, 0, 0]) (inTransport .stopped))).planner.transport = .play := by
  decide +kernel
/-- R114: a kind above 6. -/
theorem test_kind_refused : replied (exec (.queueMotion 1 [9, 7, 0, 0, 0, 0, 0, 0, 0]) (inTransport .stopped)) =
    [[0xA8, 1, 1, 0x12]] := by decide +kernel
/-- R149: an armed duplicate is refused with its index. -/
def armedCue : CueEntry := { CueEntry.blank with state := .armed, address := 256, action := .notice }
def oneCue : State :=
  let s := inTransport .stopped
  { s with cue := { s.cue with entries := s.cue.entries.set 3 armedCue } }
theorem test_cue_duplicate : replied (exec (.cueWrite 1 [4, 1, 0, 1, 0, 0, 10, 0, 0, 0]) oneCue) = [[0xB0, 1, 2, 0x1A, 3]] := by
  decide +kernel
/-- R136: a SET_POSITION to the target follows the record, a HALT cue ends the DWELL and the LOCATE is taken, parked where P is
held; its approach step goes by the record's position and leaves PARK for CRUISE. -/
theorem test_approach_from_record :
    let f := sealFrame { blankFrame 40 with idler := 150, cmdMark := 3, cmdData := ⟨0x64, 0, 0, 0⟩ }
    let others : List Task := [.chase, .protection, .settle, .supplyTorque, .takeupTorque]
    let s := carrying .stopped .dwell
    let waiting : State := { s with
      planner := { s.planner with dwell := 9, queue := [request .locate] }
      cue := { s.cue with entries := s.cue.entries.set 3 { armedCue with action := .halt } }
      msg := { s.msg with assembly := .assembling, buffer := [0x21, 7, 4, 0], fragments := 1 } }
    let t := arrivalWork f ⟨[.supplyWindow, .takeupWindow, .position, .command, .cue, .planner] ++ others, false⟩ waiting
    t.position.p = 15000 ∧ t.planner.transport = .locate ∧ t.planner.loc.phase = .cruise := by
  decide +kernel
/-- R124: a DWELL taken at a HALT cue keeps its count at the record the cue fired on, whichever of the cue and the planner's step
is first. -/
theorem test_dwell_after_halt_cue :
    let f := goodFrame fun f => { f with idler := 150 }
    let s := carrying .stopped .dwell
    let waiting : State := { s with
      planner := { s.planner with dwell := 9, queue := [request .dwell] }
      cue := { s.cue with entries := s.cue.entries.set 3 { armedCue with action := .halt } } }
    let dwell (tasks : List Task) :=
      (arrivalWork f ⟨[.supplyWindow, .takeupWindow, .position] ++ tasks ++
        [.chase, .protection, .settle, .supplyTorque, .takeupTorque, .command], false⟩ waiting).planner.dwell
    dwell [.cue, .planner] = 5 ∧ dwell [.planner, .cue] = 5 := by
  decide +kernel
/-- R111: an ESTOP sets both brakes in the frame that carries it. -/
theorem test_estop : (after (exec (.estop 1 []) (carrying .wind .wind))).planner.transport = .estop ∧
    driveFlags (after (exec (.estop 1 []) (carrying .wind .wind))) = 12 := by decide +kernel
/-- R185: no tape. -/
theorem test_release_tape_out : replied (exec (.release 1 [])
    { inTransport .braked with ring := Ring.initial }) = [[0xBC, 1, 1, 0x1C]] := by decide +kernel
/-- R21 to R29: an ONLY of three bytes is the ESTOP command. -/
theorem test_fragment_estop : (takeFragment 4 ⟨0x3B, 1, 0, 0⟩ (carrying .wind .wind)).planner.transport = .estop := by
  decide +kernel

/-! ## Statements with hypotheses: a state and operands that meet them, clause by clause -/

/-- Three replies wait: one place is left. -/
def threeReplies (s : State) : State := { s with msg := { s.msg with replies := List.replicate 3 [0x81, 0, 1, 0] } }
theorem ready_three (x : Transport) : Ready (threeReplies (inTransport x)) := (by decide : 3 < 4)
def running (n : Nat) : State :=
  let s := inTransport .stopped
  { s with ring := { s.ring with elapsed := n } }

theorem witness_EmptyQueuePassesMicrosecond :
    ((running 1999).pending = [] ∧ (running 1999).ring.timer = .running ∧ (running 1999).silenceUs ≤ 1999 + 1) ∧
    (running 1998).ring.elapsed + 1 < (running 1998).silenceUs ∧
    (State.reset.pending = [] ∧ State.reset.ring.timer ≠ .running) := by decide +kernel

/-- A chase in LOCKED with a gate open, two cues ARMED in opposite directions, and a STOP_NOW waiting. -/
def busy : State :=
  let s := carrying .chase .chase
  { s with
    chase := { s.chase with state := .locked }
    cue := { s.cue with gates := 1, entries := (s.cue.entries.set 3 armedCue).set 4 { armedCue with direction := .rev } }
    pending := [.stopNow 1 []] }
theorem busy_steps : ∃ t, step busy = .next t := ⟨_, rfl⟩
theorem witness_StepKeepsQueuesBounded : QueuesBounded busy ∧ AssemblyKept busy ∧ ∃ t, step busy = .next t :=
  ⟨by unfold QueuesBounded; decide, by unfold AssemblyKept; decide, busy_steps⟩
theorem witness_StepKeepsGatesGuarded : (GatesGuarded busy ∧ busy.cue.gates ≠ 0) ∧ ∃ t, step busy = .next t :=
  ⟨by unfold GatesGuarded; decide, busy_steps⟩
theorem witness_StepKeepsCuesDistinct : (CuesDistinct busy ∧ busy.cue.entries[3].state = .armed) ∧ ∃ t, step busy = .next t :=
  ⟨by unfold CuesDistinct; decide +kernel, busy_steps⟩
theorem busy_sound : TransportSound busy := by
  refine ⟨by unfold SafeWhileNotValid; decide, ⟨_, rfl, rfl⟩, fun h => ?_, fun h => ?_, fun h => ?_, fun h => ?_, fun h => ?_⟩
  · exact absurd h (by decide)
  · exact absurd rfl h
  · exact absurd h (by decide)
  · exact absurd h (by decide)
  · exact absurd rfl h
/-- A moving state that carries out its own request is sound; so is a STOPPED one at rest. -/
theorem sound_moving (s : State) (hv : s.config.valid = true) (hm : Moving s) (hr : RequestSuitsTransport s)
    (hi : IdleUnlessChasing s) (hl : LocateSuitsTransport s) : TransportSound s := by
  refine ⟨?_, hr, fun h => ?_, hi, fun h => ?_, fun h => ?_, hl⟩
  · unfold SafeWhileNotValid
    rcases hm with h | h | h | h <;> simp [hv, h]
  all_goals rcases hm with h' | h' | h' | h' <;> simp [h'] at h
theorem sound_stopped (s : State) (hv : s.config.valid = true) (ht : s.planner.transport = .stopped)
    (ha : s.planner.active = none) (h0 : s.planner.vRef = 0 ∧ s.planner.target = 0 ∧ s.planner.pinch = .released)
    (hi : s.chase.state = .idle) (hl : s.planner.loc.phase = .none) : TransportSound s := by
  refine ⟨?_, ?_, fun h => ?_, fun _ => hi, fun h => ?_, fun _ => h0, fun h => absurd hl h⟩
  · simp [SafeWhileNotValid, hv, ht]
  · simp [RequestSuitsTransport, ht, ha]
  · simp [ht] at h
  · simp [ht] at h
theorem closed_guarded (s : State) (h : s.cue.gates = 0) : GatesGuarded s := fun h' => absurd h h'
theorem witness_StepKeepsTransportSound : TransportSound busy ∧ ∃ t, step busy = .next t := ⟨busy_sound, busy_steps⟩
theorem witness_StepKeepsTorquesLimited : (TorquesLimited busy ∧ busy.config.valid = true) ∧ ∃ t, step busy = .next t :=
  ⟨⟨fun _ => by decide +kernel, rfl⟩, busy_steps⟩

/-- Serves ServoFrameDepartsSealed, DepartureShowsStates and DepartureShowsDriveState. -/
theorem witness_servo_frames : (blankFrame 40).kind = 0xA5 ∧ (damagedFrame 40).kind = 0xA5 := by decide +kernel
theorem good_idle (f : Frame) (s : State)
    (h : f.kind = 0xA5 ∧ frameChecks f = true ∧ f.seq ≠ s.ring.lastSeq ∧ f.cmdMark = 0 ∧ s.config.valid = true) :
    GoodIdleFrame f s := ⟨h.1, h.2.1, fun h' => h.2.2.1 h'.2, h.2.2.2⟩
def tapeOutFrame : Frame := goodFrame fun f => { f with edges := 0 }
theorem play_sound : TransportSound (carrying .play .play) :=
  sound_moving _ rfl (.inl rfl) ⟨_, rfl, rfl⟩ (fun _ => rfl) (fun h => absurd rfl h)
def arrived (f : Frame) (s : State) : State := after (exec (.servoFrameArrival f canonicalSchedule) s)
/-- R181, R184: with ESTOP_SETTLE 1 the still frame that finds the tape out ends in ESTOP; the next still frame settles it. -/
theorem test_estop_entry_not_settled :
    let s := carrying .play .play
    let quick : State := { s with config := { s.config with
      protect := stored (exampleStore.protect.contents.take 17 ++ leBytes 2 1) } }
    let t := arrived tapeOutFrame quick
    quick.estopSettle = 1 ∧ t.planner.transport = .estop ∧
      (arrived (sealFrame { tapeOutFrame with seq := 41 }) t).planner.transport = .braked := by
  decide +kernel
/-- The reference is published in PLAY and in BRAKED, not by a damaged frame; a torque is formed in PLAY, and none where
the tape is found out. -/
theorem witness_DepartureShowsDriveState :
    (GoodIdleFrame (blankFrame 40) (carrying .play .play) ∧ TransportSound (carrying .play .play)) ∧
    ((arrivalWork (blankFrame 40) canonicalSchedule (carrying .play .play)).config.valid = true ∧
      (arrivalWork (blankFrame 40) canonicalSchedule (inTransport .braked)).config.valid = true ∧
      frameChecks (damagedFrame 40) = false) ∧
    ((arrived (blankFrame 40) (carrying .play .play)).planner.transport = .play ∧
      (arrived tapeOutFrame (carrying .play .play)).planner.transport = .estop ∧
      (inTransport .braked).planner.transport = .braked) :=
  ⟨⟨good_idle _ _ (by decide +kernel), play_sound⟩, by decide +kernel, by decide +kernel⟩
def sendingState (x : Option Sending) (replies notices : List (List Byte)) : State :=
  { State.reset with msg := { MessageUnit.initial with sending := x, replies := replies, notices := notices } }
theorem witness_ArbiterServesRepliesFirst :
    ((damagedFrame 1).kind = 0xA5 ∧ frameChecks (damagedFrame 1) = false) ∧
    ((sendingState (some ⟨[0x81, 0, 2, 0, 5], 1⟩) [] []).config.valid = false ∧ 4 * 1 < [0x81, 0, 2, 0, (5 : Byte)].length) ∧
    (sendingState none [[0x81, 0, 1, 0]] []).msg.assembly = .empty ∧
    ((sendingState none [] [[0xC0, 0, 2, 1, 1]]).msg.notices ≠ [] ∧ State.reset.msg.sending = none) ∧
    (longLapse.config.valid = true ∧ longLapse.ring.lapse + 1 = longLapse.holdLimit ∧
      longLapse.msg.assembly = .empty) := by decide +kernel
theorem witness_ForeignFrameForwardedUntouched : ({ blankFrame 1 with kind := 0x5A } : Frame).kind ≠ 0xA5 := by decide
/-- A lapse of 3 grows to HOLD_LIMIT; the baseline's SEQ 39 is repeated; no baseline. -/
theorem witness_BadFrameLeavesUnitsAlone :
    (frameChecks (damagedFrame 40) = false ∧ longLapse.ring.lapse + 1 ≤ longLapse.holdLimit) ∧
    ((blankFrame 39).kind = 0xA5 ∧ (blankFrame 39).seq = (inTransport .play).ring.lastSeq) ∧
    State.reset.ring.baseline = false := by decide +kernel
/-- PLAY with entry 3 of the cue table set, and a line open. -/
def firing (e : CueEntry) : State :=
  let s := carrying .play .play
  { s with cue := { s.cue with gates := 2, entries := s.cue.entries.set 3 e } }
theorem firing_sound (e : CueEntry) : TransportSound (firing e) ∧ GatesGuarded (firing e) :=
  ⟨sound_moving _ rfl (.inl rfl) ⟨_, rfl, rfl⟩ (fun _ => rfl) (fun h => absurd rfl h),
    fun _ => ⟨.inl rfl, by simp [firing, carrying, inTransport]⟩⟩
def crossFrame (idler : Word16) : Frame := goodFrame fun f => { f with idler := idler }
def cueOf (action : CueAction) : CueEntry := { armedCue with action := action, mask := 1 }
/-- Address 256 is one sector of 150 counts: crossed by 150 counts, not by 149, and in reverse only from beyond it. A line the
entry names is decided by it, another is not; entry 3's profile 0 is complete. Tape out and a leader; a reel at RUNAWAY and
beyond it; a lapse of HOLD_LIMIT and beyond it. -/
theorem witness_GoodFrameBecomesLastGood_tests_and_cues :
    let s := firing (cueOf .gateOpen)
    (∀ e, GoodIdleFrame (crossFrame 150) (firing e) ∧ TransportSound (firing e) ∧ GatesGuarded (firing e)) ∧
    ((∀ a : Fin 5,
        fires (crossFrame 150) (firing (cueOf ([.gateOpen, .gateClose, .notice, .halt, .profile].get a))) 3 = true) ∧
      fires (crossFrame 149) (firing (cueOf .notice)) 3 = false ∧
      crossesReverse (crossFrame 150) (firing (cueOf .notice)) 256 = false ∧
      Decides (crossFrame 150) s 0 3 ∧ Decides (crossFrame 150) (firing (cueOf .gateClose)) 0 3 ∧
      (∀ i, ¬ Decides (crossFrame 150) s 1 i) ∧
      s.profile.profiles[(cueOf .profile).profile].complete = true ∧ s.planner.queue = []) ∧
    (tapeOutFrame.edges.getLsbD 0 = false ∧ (goodFrame fun f => { f with edges := 3 }).edges.getLsbD 1 = true) ∧
    (s.runawayCounts * framesSpanned (blankFrame 40) s = 120 ∧
      reelChange (goodFrame fun f => { f with supTach := 120 }) s .supply = 120 ∧
      reelChange (goodFrame fun f => { f with supTach := 121 }) s .supply = 121) ∧
    (s.holdLimit = 4 ∧ framesMissed (blankFrame 44) s = 4 ∧ framesMissed (blankFrame 45) s = 5) :=
  ⟨fun e => ⟨good_idle _ _ ⟨rfl, by decide +kernel, by change (40 : Byte) ≠ 39; decide, rfl, rfl⟩, firing_sound e⟩,
    by unfold Decides; decide +kernel, by decide +kernel, by decide +kernel, by decide +kernel⟩
theorem witness_GoodFrameBecomesLastGood : (blankFrame 40).kind = 0xA5 ∧ frameChecks (blankFrame 40) = true ∧
    ¬ ((inTransport .play).ring.baseline = true ∧ (blankFrame 40).seq = (inTransport .play).ring.lastSeq) := by decide +kernel
theorem witness_GoodFrameUnderNotValid : (blankFrame 40).kind = 0xA5 ∧ frameChecks (blankFrame 40) = true ∧
    (blankFrame 40).cmdMark = 0 ∧ ¬ (State.reset.ring.baseline = true ∧ (blankFrame 40).seq = State.reset.ring.lastSeq) ∧
    State.reset.config.valid = false ∧ State.reset.msg.assembly = .empty := by decide +kernel
/-- L reaches 4 without the condition, and 5 raises it. -/
theorem witness_SenseLostStopsTransport : longLapse.config.valid = true ∧ longLapse.ring.baseline = true ∧
    longLapse.ring.senseLostRaised = false ∧ longLapse.ring.stale = false ∧ (2 : Byte) ≠ 0 ∧
    longLapse.holdLimit < longLapse.ring.lapse + (2 : Byte).toNat ∧ ¬ longLapse.holdLimit < longLapse.ring.lapse + 1 ∧
    longLapse.planner.transport ≠ .safe ∧ longLapse.planner.transport ≠ .estop ∧
    standingLapse.holdLimit < standingLapse.ring.lapse + (0 : Byte).toNat := by decide +kernel
theorem witness_SilenceExpiryStopsTransport : (running 7).ring.timer = .running ∧ (running 7).planner.transport ≠ .safe ∧
    (running 7).planner.transport ≠ .estop := by decide

/-- SET_POSITION's first fragment stands in the buffer. -/
def halfMessage : State :=
  { State.reset with msg := { MessageUnit.initial with assembly := .assembling, buffer := [0x21, 7, 4, 1], fragments := 1 } }
theorem witness_CompletedMessageRunsItsCommand :
    (commandCarried (.setPosition 7 [1, 2, 3, 4]) = some (0x21, 7, [1, 2, 3, 4]) ∧ halfMessage.msg.assembly = .assembling ∧
      halfMessage.msg.buffer ++ quadBytes ⟨2, 3, 4, 0⟩ =
        [0x21, 7, BitVec.ofNat 8 [1, 2, 3, (4 : Byte)].length] ++ [1, 2, 3, 4] ++ [0] ∧
      (3 + 4 + 3) / 4 ≤ halfMessage.msg.fragments + 1) ∧
    (commandCarried (.release 7 []) = some (0x3C, 7, []) ∧ State.reset.msg.assembly = .empty ∧
      quadBytes ⟨0x3C, 7, 0, 9⟩ = [0x3C, 7, BitVec.ofNat 8 ([] : List Byte).length] ++ [] ++ [9]) := by decide +kernel
/-- A message of n fragments of zeros behind its header, its complete entries handed over. -/
def halfway (code : Byte) (len n run : Nat) : State :=
  let buffer := [code, 7, BitVec.ofNat 8 len] ++ List.replicate (4 * n - 3) 0
  let m : MessageUnit :=
    { MessageUnit.initial with
      assembly := .assembling, buffer := buffer, fragments := n, pauseRun := run, handed := (entriesComplete buffer).length }
  { State.reset with msg := m }
def discarding (run : Nat) : State :=
  { State.reset with msg := { MessageUnit.initial with assembly := .discarding, pauseRun := run } }
/-- Each assembly state; a pause run of 62 and 63; the shortest and the longest message with a place for one fragment more; a
PROFILE_DATA whose first entry the third fragment completes, and a CUE_WRITE_MANY before and after its opening; a LEN at the
framing limits; no frame missing, and one. -/
theorem witness_CompletedMessageRunsItsCommand_fragments :
    (∀ s ∈ [State.reset, discarding 62, discarding 63, halfway 0x21 4 1 62, halfway 0x21 2 1 63, halfway 0x10 61 15 0,
      halfway 0x19 18 2 0, halfway 0x19 18 3 0, halfway 0x31 10 1 0, halfway 0x31 18 3 0, halfway 0x31 18 4 0,
      inTransport .stopped], AssemblyKept s) ∧
    ([(0x19, 2), (0x19, 3), (0x31, 3), (0x31, 4)].map fun x =>
      (entriesComplete (halfway x.1 18 x.2 0).msg.buffer).length) = [0, 1, 0, 1] ∧
    (profileRefusal 9 State.reset = some 0x18 ∧ profileRefusal 10 State.reset = some 0x11 ∧
      cueRefusal 10 31 = none ∧ cueRefusal 18 31 = some 0x12 ∧ cueRefusal 11 0 = some 0x11) ∧
    ((blankFrame 40).kind = 0xA5 ∧ frameChecks (blankFrame 40) = true ∧ State.reset.ring.baseline = false ∧
      (inTransport .stopped).ring.damagedRun < ((41 : Byte) - 39 - 1).toNat ∧
      ¬ (inTransport .stopped).ring.damagedRun < ((40 : Byte) - 39 - 1).toNat) :=
  ⟨by unfold AssemblyKept; decide +kernel, by decide +kernel, by decide +kernel, by decide +kernel⟩
def fourReplies : State := { State.reset with msg := { MessageUnit.initial with replies := List.replicate 4 [0x81, 0, 1, 0] } }
theorem witness_FullReplyQueueDiscardsCommand :
    commandCarried (.unknownCommand 0x77 1 (List.replicate 61 0)) = some (0x77, 1, List.replicate 61 0) ∧
    (0x77 : Byte) ≠ 0x19 ∧ (0x77 : Byte) ≠ 0x31 ∧ (List.replicate 61 (0 : Byte)).length ≤ 61 ∧
    4 ≤ fourReplies.msg.replies.length := by decide +kernel
def paused (a : AssemblyState) (n : Nat) : State :=
  { State.reset with msg := { MessageUnit.initial with
      assembly := a, pauseRun := 63, replies := List.replicate n [0x81, 0, 1, 0] } }
theorem witness_PauseTimeoutBreaksMessage :
    (63 ≤ (paused .assembling 3).msg.pauseRun ∧ (paused .assembling 3).msg.replies.length < 4) ∧
    4 ≤ (paused .assembling 4).msg.replies.length ∧ (paused .discarding 4).msg.assembly = .discarding := by decide +kernel
theorem witness_UnknownCommandAnswered :
    (codeAssigned 0x00 = false ∧ codeAssigned 0x3F = false ∧ codeAssigned 0x40 = false ∧
      (List.replicate 61 (0 : Byte)).length ≤ 61) ∧ Ready (threeReplies (inTransport .braked)) :=
  ⟨by decide, ready_three _⟩

theorem witness_ReadRingReportsCounters : Ready (threeReplies (inTransport .braked)) := ready_three _
theorem witness_IdentifyReportsPart : Ready (threeReplies (inTransport .braked)) := ready_three _
theorem witness_ReadMessagingReportsCounters : Ready (threeReplies (inTransport .braked)) := ready_three _
theorem witness_RestartRestoresUnits : Ready (threeReplies (inTransport .braked)) := ready_three _
theorem witness_ConfigWriteStoresBlock : Ready (threeReplies (inTransport .safe)) ∧ (List.replicate 61 (0 : Byte)).length ≤ 61 :=
  ⟨ready_three _, by decide⟩
def uncommitted : State := { inTransport .safe with config := { exampleStore with valid := false } }
theorem uncommitted_passes : CommitChecksPass uncommitted := by
  refine ⟨?_, by decide +kernel, by decide +kernel, ?_, by decide +kernel, by decide +kernel, by decide +kernel,
    by decide +kernel, by decide +kernel⟩
  · intro id h1 h2
    interval_cases id <;> rfl
  · intro reel
    cases reel <;> decide +kernel
theorem witness_CommitEntersBraked :
    (Ready (threeReplies (inTransport .braked)) ∧ (inTransport .braked).config.valid = true ∧ [(1 : Byte)] ≠ []) ∧
    (Ready uncommitted ∧ uncommitted.config.valid = false ∧ CommitChecksPass uncommitted) :=
  ⟨⟨ready_three _, rfl, by decide⟩, (by decide : 0 < 4), rfl, uncommitted_passes⟩
/-- Nothing present, block 1 is the lowest absent; everything present. -/
theorem witness_CommitChecksOrdered :
    (Ready State.reset ∧ State.reset.config.valid = false ∧ (State.reset.config.block 1).present = false) ∧
    (Ready uncommitted ∧ ∀ id : Fin 9, ¬ (1 ≤ id.val ∧ (uncommitted.config.block id).present = false)) :=
  ⟨⟨(by decide : 0 < 4), by decide⟩, (by decide : 0 < 4), by decide +kernel⟩
theorem witness_OpenEntersSafe :
    Ready (threeReplies (carrying .stopped .dwell)) ∧ RequestSuitsTransport (threeReplies (carrying .stopped .dwell)) :=
  ⟨(by decide : 3 < 4), fun r h => by cases h; rfl⟩
theorem witness_ConfigClearAndRead : Ready (threeReplies (inTransport .safe)) := ready_three _
theorem witness_ProfileWindowSetsWindow : Ready (threeReplies (inTransport .safe)) := ready_three _
theorem witness_ProfileDataWritesEntries :
    Ready (threeReplies (inTransport .safe)) ∧ (List.replicate 54 (0 : Byte)).length ≤ 61 := ⟨ready_three _, by decide⟩
theorem witness_ProfileSelectAndClear : Ready (threeReplies (inTransport .play)) := ready_three _
theorem witness_ProfileReadReportsEntry : Ready (threeReplies (inTransport .play)) := ready_three _
theorem witness_ReadingCommandsReportState : Ready (threeReplies (inTransport .play)) := ready_three _
theorem witness_SetPositionDeclaresAddress : Ready (threeReplies (inTransport .stopped)) := ready_three _

def nineBytes (kind flags : Byte) : List Byte := [kind, 7, flags, 1, 0, 0, 1, 0, 0]
theorem witness_QueueMotionAppends :
    (Ready (threeReplies (inTransport .safe)) ∧ ([] : List Byte).length ≠ 9 ∧ (nineBytes 1 0).length = 9) ∧
    (Ready (threeReplies (carrying .play .play)) ∧ (carrying .play .play).planner.transport ≠ .safe ∧
      (carrying .stopped .dwell).planner.active ≠ none ∧ (inTransport .braked).planner.transport ≠ .stopped) :=
  ⟨⟨ready_three _, by decide, rfl⟩, (by decide : 3 < 4), by decide, by decide, by decide⟩
/-- An until address at the sector position is behind forward; one count in front of it is not. -/
theorem witness_QueuedRequestClamped :
    (nineBytes 1 4).length = 9 ∧ 0 < (inTransport .stopped).sectorLen ∧ ((nineBytes 1 4).getD 2 0).getLsbD 2 = true ∧
    leNat ((nineBytes 1 4).drop 5) = 256 := by decide +kernel
theorem witness_RequestStartsFromStopped :
    Ready (threeReplies (inTransport .stopped)) ∧ (nineBytes 1 0).length = 9 ∧
    (requestKindOf ((nineBytes 1 0).getD 0 0).toNat = some .play ∧ emptyRequest .play (nineBytes 1 0) = false) ∧
    (requestKindOf ((nineBytes 2 2).getD 0 0).toNat = some .wind ∧ emptyRequest .wind (nineBytes 2 2) = false) ∧
    (requestKindOf ((nineBytes 6 0).getD 0 0).toNat = some .dwell ∧ emptyRequest .dwell (nineBytes 6 0) = false) ∧
    (requestKindOf ((nineBytes 3 0).getD 0 0).toNat = some .locate ∧ emptyRequest .locate (nineBytes 3 0) = false) ∧
    (requestKindOf ((nineBytes 5 0).getD 0 0).toNat = some .stop ∧ emptyRequest .stop (nineBytes 5 0) = false) ∧
    (inTransport .stopped).planner.transport = .stopped ∧ (inTransport .stopped).planner.active = none ∧
    (inTransport .stopped).planner.queue = [] ∧ (inTransport .stopped).protection.inhibitReverse = false :=
  ⟨ready_three _, rfl, by decide +kernel⟩
/-- STOPPED with the reference at `ref` in the state `valid`, `running`, and the tape moving past REF at 975. -/
def referenced (ref : Word32) (valid running : Bool) : State :=
  let s := inTransport .stopped
  { s with
    ring := { s.ring with ref := ref, refValid := valid, refRunning := running }
    chase := { s.chase with vr := some 975, basis := 975 } }
theorem referenced_sound (ref : Word32) (valid running : Bool) : TransportSound (referenced ref valid running) :=
  sound_stopped _ rfl rfl rfl ⟨rfl, rfl, rfl⟩ rfl rfl
def inhibited (s : State) : State := { s with protection := { s.protection with inhibitForward := true } }
/-- A LOCATE and a CHASE of section 7's nine bytes, free and barred; the four choices of R166, with e = PHASE_WINDOW and one
beyond it, and e = −ACQ_WINDOW and one beyond it. -/
theorem witness_RequestStartsFromStopped_chase_locate :
    (∀ ref valid running, Ready (referenced ref valid running) ∧ TransportSound (referenced ref valid running)) ∧
    (requestKindOf ((nineBytes 4 0).getD 0 0).toNat = some .chase ∧ emptyRequest .chase (nineBytes 4 0) = false) ∧
    (∀ kind ∈ [RequestKind.locate, .chase], ¬ Barred (referenced 0 true true) (request kind) ∧
      Barred (inhibited (referenced 0 true true)) (request kind)) ∧
    chaseChoice (request .chase) (referenced 0 false true) = (.standby, .hold, 0) ∧
    chaseChoice (request .chase) (referenced 9 true false) = (.standby, .locate, 9) ∧
    chaseChoice (request .chase) (referenced 1280 true true) = (.slew, .capstan, 975) ∧
    chaseChoice (request .chase) (referenced 1281 true true) = (.acquire, .locate, 1281 + 512) ∧
    chaseChoice { request .chase with offset := -25600 } (referenced 0 true true) = (.slew, .capstan, 0) ∧
    chaseChoice { request .chase with offset := -25601 } (referenced 0 true true) = (.acquire, .locate, -25601 + 512) :=
  ⟨fun _ _ _ => ⟨(by decide : 0 < 4), referenced_sound _ _ _⟩, by decide +kernel,
    by unfold Barred; decide +kernel, by decide +kernel⟩
theorem witness_StopNowHalts :
    (Ready (threeReplies (carrying .locate .locate)) ∧ Moving (carrying .locate .locate)) ∧
    (Ready (threeReplies (inTransport .halting)) ∧ ¬ Moving (inTransport .halting)) ∧
    (inTransport .safe).planner.transport = .safe :=
  ⟨⟨(by decide : 3 < 4), .inr (.inr (.inl rfl))⟩, ⟨ready_three _, by unfold Moving; decide⟩, rfl⟩
theorem witness_FlushEmptiesQueue : Ready (threeReplies (inTransport .play)) := ready_three _
theorem witness_SetVarispeedSetsRatio : Ready (threeReplies (inTransport .play)) := ready_three _
/-- A resume address, with a queue empty, or of 15 or 16 records. -/
def resumable (x : Transport) (n : Nat) : State :=
  let s := inTransport x
  { s with planner := { s.planner with resume := some 25600, queue := List.replicate n (request .stop) } }
theorem witness_ResumeQueuesLocate :
    (Ready (threeReplies (inTransport .stopped)) ∧ (inTransport .stopped).planner.resume = none) ∧
    (Ready (resumable .halting 16) ∧ 16 ≤ (resumable .halting 16).planner.queue.length) ∧
    (Ready (resumable .halting 15) ∧ (resumable .halting 15).planner.queue.length < 16 ∧
      (resumable .halting 15).planner.transport ≠ .stopped) ∧
    (Ready (resumable .stopped 0) ∧ (resumable .stopped 0).planner.queue = [] ∧
      (resumable .stopped 0).planner.active = none ∧ (resumable .stopped 0).position.track ≠ .absent ∧
      (resumable .stopped 0).protection.inhibitForward = false ∧
      (resumable .stopped 0).protection.inhibitReverse = false) :=
  ⟨⟨ready_three _, rfl⟩, ⟨(by decide : 0 < 4), by decide⟩, ⟨(by decide : 0 < 4), by decide⟩, (by decide : 0 < 4), by decide⟩

/-- TRACKING, one frame short of TRACK_AGE, with one count short of RWIN accumulated and the word of sector 0 last. -/
def windowed (track : TrackStatus) (run : Nat) (idlerAcc : Int) : State :=
  let s := carrying .play .play
  { s with
    supply := { s.supply with reelAcc := 1023, idlerAcc := idlerAcc, age := 399 }
    position := { s.position with
      track := track, trackAge := 199, lastWord := some ⟨0, true⟩, wordTravel := 1, anchorRun := run, anchorWord := 0,
      discRun := run, discWord := 0 } }
def wordFrame (sector : Nat) (idler tach : Word16) : Frame :=
  goodFrame fun f => { f with track := BitVec.ofNat 32 (2147483648 + sector), idler := idler, supTach := tach }
/-- The accumulation stands at RWIN − 1, or reaches RWIN with agreeing or disagreeing signs, with the age at its limit and
before it; a word of every meaning, at and beyond SNAP_WINDOW (6) of the boundary of sector 1 (150). -/
theorem witness_StaleWindowAndTrackAge :
    ((windowed .tracking 0 0).config.valid = true ∧ (windowed .tracking 0 0).rwin = 1024 ∧
      (windowed .tracking 0 0).supply.age + 1 = (windowed .tracking 0 0).rstale ∧
      (windowed .tracking 0 0).position.trackAge + 1 = (windowed .tracking 0 0).trackAgeLimit) ∧
    GoodIdleFrame (wordFrame 1 140 1) (windowed .tracking 0 0) ∧
    (reelChange (wordFrame 1 140 1) (windowed .tracking 0 (-1000)) .supply = 1 ∧
      (1023 + 1) * ((-1000 : Int) + idlerChange (wordFrame 1 140 1) (windowed .tracking 0 0)) < 0 ∧
      0 ≤ (1023 + 1) * ((1000 : Int) + idlerChange (wordFrame 1 140 1) (windowed .tracking 0 0)) ∧
      reelChange (wordFrame 1 140 0) (windowed .tracking 0 0) .supply = 0) ∧
    inRange32 ((windowed .tracking 0 0).position.wordTravel + idlerChange (wordFrame 1 140 1) (windowed .tracking 0 0)) ∧
    (frameWord (blankFrame 40) (windowed .tracking 0 0) = .nothing ∧
      frameWord (wordFrame 0 0 0) (windowed .tracking 0 0) = .confirms ∧
      frameWord (wordFrame 1 1 0) (windowed .absent 2 0) = .anchors 3 ∧
      frameWord (wordFrame 2 1 0) (windowed .absent 2 0) = .anchors 1 ∧
      frameWord (wordFrame 1 144 0) (windowed .tracking 2 0) = .snaps ∧
      frameWord (wordFrame 1 143 0) (windowed .tracking 2 0) = .deviates 3 ∧
      frameWord (wordFrame 2 143 0) (windowed .coasting 2 0) = .deviates 1) :=
  ⟨by decide +kernel, good_idle _ _ (by decide +kernel), by decide +kernel, by decide +kernel, by decide +kernel⟩

def withPinch (x : Pinch) (s : State) : State := { s with planner := { s.planner with pinch := x } }
def capstanChase : State :=
  let s := withPinch (.engaging 1) (carrying .chase .chase)
  { s with planner := { s.planner with mode := .capstan } }
theorem witness_PlannerCountsExpire :
    ((withPinch (.engaging 1) (carrying .play .play)).config.valid = true ∧
      (withPinch (.engaging 1) (carrying .play .play)).planner.active = some (request .play)) ∧
    (capstanChase.planner.pinch = .engaging 1 ∧ capstanChase.planner.mode = .capstan) ∧
    (withPinch (.releasing 0) (inTransport .halting)).planner.pinch = .releasing 0 ∧
    ((carrying .stopped .dwell).planner.active = some (request .dwell) ∧ (carrying .stopped .dwell).planner.dwell ≤ 1) ∧
    ((inTransport .halting).planner.vRef = 0 ∧ (inTransport .halting).planner.pinch = .released) := by decide +kernel
def followed (x : Transport) (kind head : RequestKind) : State :=
  let s := carrying x kind
  { s with planner := { s.planner with queue := [request head] } }
def located (phase : Phase) : State :=
  let s := carrying .locate .locate
  { s with planner := { s.planner with
      loc := { kind := .request, phase := phase, reverse := false, target := 20, remaining := 1, overshoots := 0 } } }
theorem witness_RequestEndsAndSuccession :
    ((followed .play .play .stop).planner.active = some (request .play) ∧
      (followed .play .play .stop).planner.queue = [request .stop] ∧ (request .play).untilAt = none) ∧
    ((followed .wind .wind .wind).planner.queue = [request .wind] ∧
      (followed .wind .wind .wind).protection.inhibitForward = false) ∧
    ((located .park).planner.active = some (request .locate) ∧ (located .park).planner.vRef = 0 ∧
      |((located .park).planner.loc.target - (located .park).position.p).toInt| ≤ ((located .park).parkWindow : Int) ∧
      (located .park).planner.queue = []) ∧
    ((located .cruise).planner.loc.phase ≠ .none ∧ (located .cruise).planner.loc.remaining ≤ 1) := by decide +kernel
/-- A request locate in a phase, at a distance, with v_ref, overshoots and frames remaining. -/
def nearing (phase : Phase) (target : Word32) (vRef : Int) (overshoots remaining : Nat) : State :=
  let s := carrying .locate .locate
  { s with planner := { s.planner with
      vRef := vRef
      loc := { kind := .request, phase := phase, reverse := false, target := target, remaining := remaining,
               overshoots := overshoots } } }
theorem nearing_sound (phase : Phase) (target : Word32) (vRef : Int) (overshoots remaining : Nat) :
    TransportSound (nearing phase target vRef overshoots remaining) :=
  sound_moving _ rfl (.inr (.inr (.inl rfl))) ⟨_, rfl, rfl⟩ (fun _ => rfl) (fun _ => .inl ⟨rfl, rfl⟩)
def untilAt (address : Nat) : State :=
  let s := carrying .play .play
  { s with planner := { s.planner with active := some { request .play with untilAt := some address } } }
def dwelling (n : Nat) : State :=
  let s := carrying .stopped .dwell
  { s with planner := { s.planner with dwell := n } }
/-- Nothing is in the way of a blank frame or of one that crosses address 256. -/
theorem undisturbed (s : State) (h : s ∈ [untilAt 256, dwelling 1, dwelling 2, nearing .park 20 0 0 9]) (f : Frame)
    (hf : f ∈ [blankFrame 40, crossFrame 149, crossFrame 150]) : Undisturbed f s := by
  have : ∀ s ∈ [untilAt 256, dwelling 1, dwelling 2, nearing .park 20 0 0 9],
      ∀ f ∈ [blankFrame 40, crossFrame 149, crossFrame 150], Undisturbed f s := by
    intro s h f hf
    simp only [List.mem_cons, List.not_mem_nil, or_false] at h hf
    rcases h with rfl | rfl | rfl | rfl <;> rcases hf with rfl | rfl | rfl <;>
      exact ⟨by decide +kernel, by decide +kernel, by decide +kernel, fun r => by cases r <;> decide +kernel,
        by decide +kernel, by decide +kernel, by decide +kernel, fun r => by cases r <;> decide +kernel,
        by decide +kernel⟩
  exact this s h f hf
/-- An until address crossed and missed by one count; a DWELL of 1 and of 2; the tests of each phase at their limits: D at
PARK_WINDOW (20) and beyond it, the target passed by 21 at the second and the third overshoot, D at the stopping distance and
margin of v_ref 4096 (2048 + 16) and beyond it, PARK and RECOVER moving and at rest; a budget of 1 and of 2. -/
theorem witness_RequestEndsAndSuccession_advance :
    (crossesForward (crossFrame 150) (untilAt 256) 256 = true ∧ crossesForward (crossFrame 149) (untilAt 256) 256 = false) ∧
    ((dwelling 1).planner.dwell ≤ 1 ∧ ¬ (dwelling 2).planner.dwell ≤ 1) ∧
    ((approached (nearing .cruise 20 0 0 9) 0 16 1000).1.phase = .park ∧
      (approached (nearing .cruise 21 0 0 9) 0 16 1000).1.phase = .cruise ∧
      (approached (nearing .cruise (-21) 16 0 9) 0 16 1000).1.phase = .recover ∧
      (approached (nearing .decel (-21) 16 1 9) 0 16 1000).2.2 = none ∧
      (approached (nearing .decel (-21) 16 2 9) 0 16 1000).2.2 = some .unsettled) ∧
    ((approached (nearing .cruise 2064 4096 0 9) 0 16 9000).1.phase = .decel ∧
      (approached (nearing .cruise 2065 4096 0 9) 0 16 9000).1.phase = .cruise) ∧
    ((approached (nearing .park 20 0 0 9) 0 16 1000).2.2 = some .completed ∧
      (approached (nearing .park 20 1 0 9) 0 16 1000).2.2 = none ∧
      (approached (nearing .park (-21) 0 0 9) 0 16 1000).1.overshoots = 1 ∧
      (approached (nearing .recover 20 0 1 9) 0 16 1000).1.phase = .park ∧
      (approached (nearing .recover 21 1 1 9) 0 16 1000).1.phase = .recover) ∧
    ((nearing .cruise 21 0 0 1).planner.loc.remaining - 1 = 0 ∧ (nearing .cruise 21 0 0 2).planner.loc.remaining - 1 ≠ 0) := by
  decide +kernel

/-- A chase LOCKED, with one request waiting and the pinch ENGAGED; the same of a PLAY. -/
def chaseFollowed (head : RequestKind) : State :=
  let s := withPinch .engaged (followed .chase .chase head)
  { s with chase := { s.chase with state := .locked } }
def playFollowed (head : RequestKind) : State := withPinch .engaged (followed .play .play head)
def parkFollowed (head : RequestKind) : State :=
  let s := located .park
  { s with planner := { s.planner with queue := [request head] } }
theorem followed_sound (head : RequestKind) :
    TransportSound (chaseFollowed head) ∧ TransportSound (inhibited (chaseFollowed head)) ∧
    TransportSound (playFollowed head) ∧ TransportSound (inhibited (playFollowed head)) ∧
    TransportSound (followed .wind .wind head) ∧ TransportSound (inhibited (followed .wind .wind head)) ∧
    TransportSound (parkFollowed head) := by
  refine ⟨?_, ?_, ?_, ?_, ?_, ?_, ?_⟩
  all_goals refine sound_moving _ rfl ?_ ⟨_, rfl, rfl⟩ (fun h => ?_) (fun h => ?_)
  all_goals first
    | exact .inl rfl
    | exact .inr (.inl rfl)
    | exact .inr (.inr (.inl rfl))
    | exact .inr (.inr (.inr rfl))
    | exact .inl ⟨rfl, rfl⟩
    | exact absurd rfl h
    | rfl
/-- A chase and a play taken over by either, a wind and a park by either of their family; each head barred by an inhibit or
not; and a head of the other family. -/
theorem witness_RequestEndsAndSuccession_takeover (head : RequestKind) :
    (∀ s ∈ [chaseFollowed head, playFollowed head, followed .wind .wind head, parkFollowed head],
      s.config.valid = true ∧ GatesGuarded s ∧ s.planner.queue = [request head] ∧ (request head).untilAt = none) ∧
    ((chaseFollowed head).planner.active = some (request .chase) ∧
      (playFollowed head).planner.active = some (request .play) ∧
      (followed .wind .wind head).planner.active = some (request .wind) ∧
      (parkFollowed head).planner.active = some (request .locate) ∧ (parkFollowed head).planner.loc.phase = .park) ∧
    (TakesOver .chase .chase .engaged ∧ TakesOver .play .chase (.engaging 3) ∧ TakesOver .wind .locate .released ∧
      ¬ TakesOver .play .chase (.releasing 3) ∧ ¬ TakesOver .chase .wind .engaged) ∧
    (∀ kind ∈ [RequestKind.play, .chase], ¬ Barred (chaseFollowed head) (request kind) ∧
      Barred (inhibited (chaseFollowed head)) (request kind)) ∧
    (∀ kind ∈ [RequestKind.wind, .locate], ¬ Barred (followed .wind .wind head) (request kind) ∧
      Barred (inhibited (followed .wind .wind head)) (request kind)) :=
  ⟨fun s h => by
      simp only [List.mem_cons, List.not_mem_nil, or_false] at h
      rcases h with rfl | rfl | rfl | rfl <;> exact ⟨rfl, closed_guarded _ rfl, rfl, rfl⟩,
    ⟨rfl, rfl, rfl, rfl, rfl⟩, by unfold TakesOver; decide, by unfold Barred; cases head <;> decide +kernel,
    by unfold Barred; cases head <;> decide +kernel⟩

def carriedBytes : List Byte := [0, 1, 0, 0, 10, 0, 0, 0]
def carriedCue : CueEntry := { armedCue with direction := .either }
theorem carried : CarriedCue true carriedBytes carriedCue := by unfold CarriedCue CueUnfit; decide +kernel
theorem overlaps : Overlapping armedCue carriedCue := by unfold Overlapping; decide
/-- Index 31 free of conflicts on an empty table; entry 3 conflicts; a direction of 3 is unfit. -/
theorem witness_CueWriteReplacesEntry :
    (Ready (threeReplies (inTransport .stopped)) ∧ ([31, 1] ++ carriedBytes).length = 10 ∧ (31 : Byte).toNat ≤ 31 ∧
      CarriedCue true carriedBytes carriedCue ∧ (inTransport .stopped).cue.entries[(3 : Fin 32)].state ≠ .armed) ∧
    (oneCue.cue.entries[(3 : Fin 32)].state = .armed ∧ Overlapping oneCue.cue.entries[(3 : Fin 32)] carriedCue) ∧
    CueUnfit [0, 0, 0, 0, 3, 0, 0, 0] :=
  ⟨⟨ready_three _, rfl, by decide, carried, by decide +kernel⟩, ⟨by decide +kernel, overlaps⟩, by unfold CueUnfit; decide⟩
/-- Two entries from index 30: both fit; the second unfit; the first conflicts with entry 3. -/
theorem witness_CueWriteManyWritesRun :
    (Ready (threeReplies (inTransport .stopped)) ∧ ([30, 0] ++ carriedBytes ++ carriedBytes).length = 18 ∧
      (30 : Byte).toNat + 2 ≤ 32 ∧ CarriedCue false carriedBytes { carriedCue with state := .disarmed }) ∧
    CueUnfit [0, 0, 0, 0, 0, 0, 0, 0] ∧
    (CarriedCue true carriedBytes carriedCue ∧ oneCue.cue.entries[(3 : Fin 32)].state = .armed ∧
      Overlapping oneCue.cue.entries[(3 : Fin 32)] carriedCue) :=
  ⟨⟨ready_three _, by decide, by decide, by unfold CarriedCue CueUnfit; decide +kernel⟩,
    by unfold CueUnfit; decide, carried, by decide +kernel, overlaps⟩
/-- Entry 3 ARMED; entry 4 DISARMED at the same address, or at another. -/
def armable (address : Nat) : State :=
  let e := { armedCue with state := .disarmed, address := address }
  { oneCue with cue := { oneCue.cue with entries := oneCue.cue.entries.set 4 e } }
/-- Entry 4 alone is named, and none before it conflicts. -/
theorem lowest_conflict : ∀ k < (4 : Fin 32), ∀ j, ¬ ArmConflict (armable 256) 0x10 k j := by
  intro k hk j h
  have h1 : ∀ k < (4 : Fin 32), (0x10 : Word32).getLsbD k = false := by decide
  exact absurd h.1.1 (by rw [h1 k hk]; decide)
theorem no_conflict : ∀ i j, ¬ ArmConflict (armable 512) 0x10 i j := by
  unfold ArmConflict Candidate Overlapping
  decide +kernel
theorem witness_CueArmArmsCandidates :
    (Ready (armable 512) ∧ Candidate (armable 512) 0x10 4 ∧ ∀ i j, ¬ ArmConflict (armable 512) 0x10 i j) ∧
    (Ready (armable 256) ∧ ArmConflict (armable 256) 0x10 4 3 ∧
      ∀ k < (4 : Fin 32), ∀ j, ¬ ArmConflict (armable 256) 0x10 k j) := by
  refine ⟨⟨(by decide : 0 < 4), ?_, no_conflict⟩, (by decide : 0 < 4), ?_, lowest_conflict⟩
  · unfold Candidate
    decide +kernel
  · unfold ArmConflict Candidate Overlapping
    decide +kernel
theorem witness_CueDisarmClearRead : Ready (threeReplies oneCue) ∧ ([8, 0, 0, 0] : List Byte).length = 4 :=
  ⟨(by decide : 3 < 4), rfl⟩
theorem witness_SetOffsetAndReadSync : Ready (threeReplies chasing) ∧ inRange32 (chasing.chase.vr.getD 0) :=
  ⟨(by decide : 3 < 4), by decide⟩
def faulted : State :=
  let s := inTransport .estop
  let r : FaultRecord :=
    { condition := .slack, reel := some .takeup, seq := 39, p := 0, transport := .wind, captured := 30 }
  { s with protection := { s.protection with flags := 1, record := some r } }
theorem witness_ReadFaultsClearsFlags : Ready (threeReplies faulted) ∧ faulted.protection.record ≠ none :=
  ⟨(by decide : 3 < 4), by decide⟩
theorem witness_EstopCommandStops :
    (Ready (threeReplies (carrying .locate .locate)) ∧ (carrying .locate .locate).planner.transport ≠ .safe ∧
      (carrying .locate .locate).planner.transport ≠ .estop) ∧
    (inTransport .safe).planner.transport = .safe ∧ (inTransport .estop).planner.transport = .estop :=
  ⟨⟨(by decide : 3 < 4), by decide, by decide⟩, rfl, rfl⟩
theorem witness_ReleaseEntersStopped : Ready (threeReplies (inTransport .braked)) := ready_three _

/-- A chase with the reference running at speed 975, one record short of LOCK_FRAMES or STABLE_FRAMES. -/
def qualifying (x : ChaseState) (run : Nat) : State :=
  let s := carrying .chase .chase
  { s with
    ring := { s.ring with refValid := true, refRunning := true }
    chase := { s.chase with state := x, vr := some 975, basis := 975, qualRun := run } }
def losing : State :=
  let s := qualifying .holdover 0
  { s with ring := { s.ring with refValid := false }, chase := { s.chase with absentRun := 199 } }
theorem witness_ChaseQualifiesAndIsLost :
    ((qualifying .phase 399).config.valid = true ∧ referenceRuns (qualifying .phase 399) = true ∧
      |(-64 : Int)| ≤ ((qualifying .phase 399).lockWindow : Int) ∧ |(-64 : Int)| ≤ ((qualifying .phase 399).acqWindow : Int) ∧
      (qualifying .phase 399).lockFrames ≤ min (399 + 1) 65535) ∧
    (referenceRuns (qualifying .locked 3999) = true ∧ |(64 : Int)| ≤ ((qualifying .locked 3999).lossWindow : Int) ∧
      (qualifying .locked 3999).stableFrames ≤ min (3999 + 1) 65535) ∧
    (losing.planner.active = some (request .chase) ∧ losing.ring.refValid = false ∧
      losing.refHold ≤ min (losing.chase.absentRun + 1) 65535) := by decide +kernel
def referenceFrame (ref : Word32) (flags : Byte) : Frame := goodFrame fun f => { f with ref := ref, refFlags := flags }
theorem qualifying_sound (x : ChaseState) (run : Nat) : TransportSound (qualifying x run) :=
  sound_moving _ rfl (.inr (.inr (.inr rfl))) ⟨_, rfl, rfl⟩ (fun h => absurd rfl h) (fun h => absurd rfl h)
/-- A record with the reference gone, stopped, or running at e = LOCK_WINDOW (64), LOSS_WINDOW (256) and one beyond each, and one
beyond ACQ_WINDOW: the chase stands outside IDLE after each. -/
theorem witness_ChaseQualifiesAndIsLost_record :
    (∀ x run, GoodIdleFrame (referenceFrame 64 3) (qualifying x run) ∧ TransportSound (qualifying x run) ∧
      (qualifying x run).planner.queue = []) ∧
    (arrived (referenceFrame 64 3) (qualifying .phase 399)).chase.state = .locked ∧
    (arrived (referenceFrame 65 3) (qualifying .phase 399)).chase.state = .phase ∧
    (arrived (referenceFrame 25601 3) (qualifying .phase 399)).chase.state ≠ .idle ∧
    (arrived (referenceFrame 256 3) (qualifying .locked 0)).chase.state = .locked ∧
    (arrived (referenceFrame 257 3) (qualifying .locked 0)).chase.state = .phase ∧
    (arrived (referenceFrame 0 1) (qualifying .stable 0)).chase.state = .standby ∧
    (arrived (referenceFrame 0 0) (qualifying .stable 0)).chase.state = .holdover :=
  ⟨fun _ _ => ⟨good_idle _ _ ⟨rfl, by decide +kernel, by change (40 : Byte) ≠ 39; decide, rfl, rfl⟩,
    qualifying_sound _ _, rfl⟩, by decide +kernel⟩
/-- STANDBY or ACQUIRE, the last order a locate to an address, pending or reported, one record short of nine values of REF. -/
def waiting (x : ChaseState) (pending : Bool) (target : Int) (absent : Nat) : State :=
  let s := qualifying x 0
  { s with chase := { s.chase with
      lastOrder := .locate, locatePending := pending, lastTarget := target, absentRun := absent } }
/-- The two states without a report due. In STANDBY with the reference standing: no order at ACQ_WINDOW (25600), an order beyond
it, of the error where nothing is pending and of the last target where something is. A running reference and the first record after a
dropout choose; ACQUIRE goes on, chooses where nothing is pending, and falls to STANDBY. -/
theorem witness_ChaseQualifiesAndIsLost_standing :
    (∀ x pending target absent, TransportSound (waiting x pending target absent) ∧
      ¬ ReportDue (waiting x pending target absent) (waiting x pending target absent)) ∧
    ((standingRule (waiting .standby false 0 0) 975 25600 25600 false).2.1 = none ∧
      (standingRule (waiting .standby false 0 0) 975 25601 25601 false).2.1 = some (.locate, 25601) ∧
      (standingRule (waiting .standby true 0 0) 975 25600 99999 false).2.1 = none ∧
      (standingRule (waiting .standby true 0 0) 975 25601 0 false).2.1 = some (.locate, 25601)) ∧
    ((standingRule (waiting .standby true 0 0) 975 0 1280 true).1 = .slew ∧
      (standingRule (waiting .standby true 0 0) 975 0 1281 true).1 = .acquire ∧
      (standingRule (waiting .acquire true 0 1) 975 0 1280 true) = (.slew, some (.capstan, 975), true, 10)) ∧
    ((standingRule (waiting .acquire true 0 0) 975 0 0 true).2.1 = none ∧
      (standingRule (waiting .acquire false 0 0) 975 0 0 true).1 = .slew ∧
      (standingRule (waiting .acquire true 0 0) 975 0 0 false).1 = .standby) ∧
    (arrived (referenceFrame 0 1) (waiting .acquire true 0 0)).chase.state = .standby ∧
    (arrived (referenceFrame 0 0) (waiting .acquire true 0 0)).chase.state = .acquire :=
  ⟨fun x _ _ _ => ⟨sound_moving _ rfl (.inr (.inr (.inr rfl))) ⟨_, rfl, rfl⟩ (fun h => absurd rfl h) (fun h => absurd rfl h),
    fun h => LocateKind.noConfusion (show LocateKind.none = .internal from h.1)⟩, by decide +kernel⟩
def internal (phase : Phase) (target : Word32) : State :=
  let s := carrying .chase .chase
  { s with
    planner := { s.planner with
      loc := { kind := .internal, phase := phase, reverse := false, target := target, remaining := 0, overshoots := 0 } }
    chase := { s.chase with state := .acquire } }
theorem witness_InternalLocateStartsAndParks :
    ((internal .wait 21).config.valid = true ∧ (internal .wait 21).planner.loc.kind = .internal ∧
      (internal .wait 21).planner.pinch = .released ∧ (internal .wait 21).planner.vRef = 0) ∧
    (|((internal .park 20).planner.loc.target - (internal .park 20).position.p).toInt| ≤ ((internal .park 20).parkWindow : Int) ∧
      (internal .park 20).chase.state = .acquire) := by decide +kernel
/-- Slack for 19 frames; still for 15 frames in ESTOP. -/
def slackWind : State :=
  let s := carrying .wind .wind
  { s with supply := { s.supply with tMeas := 39 }, protection := { s.protection with slackSup := 19 } }
def settling : State :=
  let s := inTransport .estop
  { s with protection := { s.protection with settleRun := 15 } }
theorem witness_SlackStopsAndEstopSettles :
    (slackWind.config.valid = true ∧ slackWind.planner.transport ∉ [Transport.safe, .braked, .estop] ∧
      slackWind.protection.grace = 0 ∧ slackWind.supply.tMeas < slackWind.slackLevel ∧ 19 < slackWind.slackFrames ∧
      slackWind.slackFrames ≤ 19 + 1) ∧
    (settling.planner.transport = .estop ∧ settling.estopSettle ≤ min (settling.protection.settleRun + 1) 65535) := by
  decide +kernel
def overloaded : State :=
  let s := carrying .wind .wind
  { s with
    supply := { s.supply with tMeas := 901, mismatch := 2, satRun := 799 }
    protection := { s.protection with overSup := 39 } }
/-- The same part at rest, halting or stopped with a DWELL. -/
def overloadedIn (x : Transport) (active : Option Request) : State :=
  { overloaded with planner := { overloaded.planner with transport := x, active := active, queue := [request .play] } }
/-- A moving state; the others, each with the request it can hold. -/
theorem witness_FaultHaltConditionsHalt :
    (overloaded.config.valid = true ∧ RequestSuitsTransport overloaded ∧ Moving overloaded) ∧
    (RequestSuitsTransport (overloadedIn .stopped (some (request .dwell))) ∧
      RequestSuitsTransport (overloadedIn .stopped none) ∧ RequestSuitsTransport (overloadedIn .halting none) ∧
      RequestSuitsTransport (overloadedIn .braked none) ∧ RequestSuitsTransport (overloadedIn .estop none)) ∧
    (overloaded.overLevel < overloaded.supply.tMeas ∧ 39 < overloaded.overFrames ∧ overloaded.overFrames ≤ 39 + 1) ∧
    overloaded.supply.mismatch = 2 ∧
    ((overloaded.torqueLim .supply : Int) < |(-8001 : Int)| ∧ overloaded.supply.satRun < overloaded.satFrames ∧
      overloaded.satFrames ≤ overloaded.supply.satRun + 1) :=
  ⟨⟨rfl, ⟨_, rfl, rfl⟩, .inr (.inl rfl)⟩,
    ⟨(fun r h => by cases h; rfl), (fun r h => by cases h), rfl, rfl, rfl⟩, by decide +kernel⟩

end Sys2Proof.Tests
end

/-! PROOFS. The departure of a servo frame (section 1.3): where its fields stand among the 48 bytes, its check, and its two
status fields. -/

namespace Sys2Proof.Machine

/-! ## The frame's bytes by field (section 1.6) -/

theorem leNat_word16Bytes (w : Word16) : leNat (word16Bytes w) = w.toNat := by
  rw [word16Bytes, leNat_leBytes]
  exact Nat.mod_eq_of_lt w.isLt

theorem frameBody_length (f : Frame) : (frameBody f).length = 46 := by simp [frameBody]

theorem frameBytes_take_46 (f : Frame) : (frameBytes f).take 46 = frameBody f := List.take_left' (frameBody_length f)

theorem frameBytes_drop_46 (f : Frame) : (frameBytes f).drop 46 = word16Bytes f.crc := List.drop_left' (frameBody_length f)

theorem frameBytes_take_28 (f : Frame) : (frameBytes f).take 28 = frameHead f := by
  rw [frameBytes, frameBody, List.append_assoc]
  exact List.take_left' (frameHead_length f)

theorem frameBytes_getD_41 (f : Frame) : (frameBytes f).getD 41 0 = f.status0 := rfl

theorem frameBytes_status1 (f : Frame) : ((frameBytes f).drop 42).take 2 = word16Bytes f.status1 := rfl

theorem frameBytes_bytes44 (f : Frame) : ((frameBytes f).drop 44).take 2 = word16Bytes f.bytes44 := rfl

theorem word16Bytes_zero : word16Bytes 0 = [0, 0] := rfl

/-- R15: the check of a sealed frame, low byte first, is that of the 46 bytes before it. -/
theorem sealFrame_check (f : Frame) :
    leNat ((frameBytes (sealFrame f)).drop 46) = (crc ((frameBytes (sealFrame f)).take 46)).toNat := by
  rw [frameBytes_drop_46, frameBytes_take_46, leNat_word16Bytes]
  rfl

/-! ## The departure -/

/-- R1: a frame of KIND A5h is handled as a servo frame. -/
theorem exec_servoFrame (f : Frame) (sched : Schedule) (s : State) (h : f.kind = 0xA5) :
    exec (.servoFrameArrival f sched) s = .next (servoFrame f sched s) := by
  have hk : frameArrival f sched s = servoFrame f sched s := if_pos h
  exact congrArg Host.Outcome.next hk

/-- The fields of a departing frame are those of the state the departure leaves: the last act of a departure, the record of
the forwarded frame, changes nothing a field shows. -/
theorem depart_out (f : Frame) (good : Bool) (s : State) :
    (depart f good s).ring.out =
      frameBytes (sealFrame (writeFields f (arbiter (departReference good s)).1 (!good) (depart f good s))) := rfl

/-- Whatever the arbiter supplies, a servo frame departs with its fields written and its check recomputed (R11, R15). -/
theorem servoFrame_out (f : Frame) (sched : Schedule) (s : State) :
    ∃ r : ReplyField, (servoFrame f sched s).ring.out =
      frameBytes (sealFrame (writeFields f r (!isGood f s) (servoFrame f sched s))) :=
  ⟨_, depart_out f (isGood f s) (arrivalWork f sched s)⟩

/-- Settles O10: the forwarded frame is a sealed one, whatever arrived; the part writes none of its bytes 0 to 27. -/
theorem servoFrameDepartsSealed : Obligations.ServoFrameDepartsSealed := by
  intro f sched s hk
  obtain ⟨r, hout⟩ := servoFrame_out f sched s
  refine ⟨_, exec_servoFrame f sched s hk, ?_⟩
  rw [hout]
  exact ⟨frameBytes_length _, sealFrame_check _, (frameBytes_take_28 _).trans (frameBytes_take_28 f).symm,
    (frameBytes_bytes44 _).trans word16Bytes_zero⟩

/-! ## The status fields (R14, R34) -/

theorem mul_bit (n : Nat) (b : Bool) : n * bit b = if b then n else 0 := by cases b <;> simp [bit]

theorem Transport.code_lt (x : Transport) : x.code.toNat < 16 := by cases x <;> decide

theorem ChaseState.code_lt (x : ChaseState) : x.code.toNat < 16 := by cases x <;> decide

theorem TrackStatus.code_lt (x : TrackStatus) : x.code.toNat < 4 := by cases x <;> decide

/-- A frame is not good where it fails its check or repeats the last good SEQ of a baseline (R2 to R4). -/
theorem not_isGood_iff (f : Frame) (s : State) :
    (!isGood f s) = true ↔ frameChecks f = false ∨ (s.ring.baseline = true ∧ f.seq = s.ring.lastSeq) := by
  cases h : frameChecks f <;> simp [isGood, isRepeated, h]

theorem status0_toNat (s : State) (damaged : Bool) :
    (status0 s damaged).toNat = s.planner.transport.code.toNat + (if s.planner.hold then 16 else 0) +
      (if s.msg.notices = [] then 0 else 32) + (if s.protection.flags = 0 then 0 else 64) +
      (if damaged then 128 else 0) := by
  have hc := s.planner.transport.code_lt
  have hn : 32 * bit (!s.msg.notices.isEmpty) = if s.msg.notices = [] then 0 else 32 := by
    cases h : s.msg.notices <;> simp [bit]
  have hf : 64 * bit (s.protection.flags != 0) = if s.protection.flags = 0 then 0 else 64 := by
    by_cases h : s.protection.flags = 0 <;> simp [bit, h]
  rw [status0, hn, hf, mul_bit, mul_bit, BitVec.toNat_ofNat]
  exact Nat.mod_eq_of_lt (by split_ifs <;> omega)

theorem status1_toNat (s : State) :
    (status1 s).toNat = s.chase.state.code.toNat + 16 * s.position.track.code.toNat + (if s.config.valid then 64 else 0) +
      (if s.msg.overrunLatch then 128 else 0) + 256 * s.profile.active.val +
      (if s.msg.noticesLost = 0 then 0 else 1024) := by
  have hc := s.chase.state.code_lt
  have ht := s.position.track.code_lt
  have hp := s.profile.active.isLt
  have hn : 1024 * bit (decide (0 < s.msg.noticesLost)) = if s.msg.noticesLost = 0 then 0 else 1024 := by
    by_cases h : s.msg.noticesLost = 0 <;> simp [bit, h, Nat.pos_iff_ne_zero]
  rw [status1, hn, mul_bit, mul_bit, BitVec.toNat_ofNat]
  exact Nat.mod_eq_of_lt (by split_ifs <;> omega)

/-- Settles O11: each field of the status is narrow enough for its place, so byte 41 and bytes 42 and 43 read back as the sum
of the parts written there. -/
theorem departureShowsStates : Obligations.DepartureShowsStates := by
  intro f sched s hk
  obtain ⟨r, hout⟩ := servoFrame_out f sched s
  refine ⟨_, exec_servoFrame f sched s hk, ?_, ?_⟩
  · rw [hout, frameBytes_getD_41]
    refine (status0_toNat _ _).trans ?_
    simp only [not_isGood_iff]
  · rw [hout, frameBytes_status1, leNat_word16Bytes]
    exact status1_toNat _

end Sys2Proof.Machine

/-! PROOFS. The commands of the Message Unit (section 2.7): the completion event of a command that judges its own length, the
CODE of a reply to an unassigned one, and IDENTIFY. -/

namespace Sys2Proof.Machine

/-! ## Completed commands and their replies -/

/-- A command that itself refuses every LEN above 61 runs on the emptied assembly whatever its parameters: the completion
event's own refusal (R22) is the same one. -/
theorem atCompletion_runs (code tag : Byte) (params : List Byte) (run : State → State) (s : State) (h : Ready s)
    (hlong : 61 < params.length → run (clearAssembly s) = reply code tag .badLength [] (clearAssembly s)) :
    atCompletion code tag params run s = run (clearAssembly s) := by
  rcases Nat.lt_or_ge 61 params.length with hl | hl
  · rw [atCompletion_long _ _ _ _ _ hl, hlong hl]
  · exact atCompletion_ready _ _ _ _ _ h hl

theorem replyCode_low (code : Byte) (h : code.toNat ≤ 0x3F) : replyCode code = code + 0x80 := if_pos h

theorem replyCode_high (code : Byte) (h : ¬ code.toNat ≤ 0x3F) : replyCode code = 0xBF := if_neg h

/-- R30: a CODE above 3Fh is answered as 3Fh would be, with BFh. -/
theorem replyCode_capped (code : Byte) : replyCode (if code.toNat ≤ 0x3F then code else 0x3F) = replyCode code := by
  split
  · rfl
  · next hc => rw [replyCode_high code hc, replyCode_low 0x3F (by decide)]; rfl

/-- The CODE of a command reaches its reply through `replyCode` alone. -/
theorem reply_congr_code {code code' : Byte} (hc : replyCode code = replyCode code') (tag : Byte) (r : Result)
    (data : List Byte) (s : State) : reply code tag r data s = reply code' tag r data s := by
  rw [reply, reply, replyMessage, replyMessage, hc]

/-! ## UNKNOWN_COMMAND (R30) -/

/-- The row of an unassigned CODE occurs: it is the completion event of an unknown command. -/
theorem exec_unknownCommand (code tag : Byte) (params : List Byte) (s : State) (hc : codeAssigned code = false) :
    exec (.unknownCommand code tag params) s =
      .next (atCompletion code tag params (unknownCommand code tag) s) := by
  have hdue : (!codeAssigned code) = true := by rw [hc]; rfl
  exact congrArg Host.Outcome.next (if_pos hdue)

/-- On the emptied assembly an unknown command is refused under its CODE, or 3Fh for one above 3Fh. -/
theorem unknownCommand_refused (code tag : Byte) (s : State) (h : Ready s) :
    unknownCommand code tag (clearAssembly s) =
      refusedWith s (if code.toNat ≤ 0x3F then code else 0x3F) tag 0x10 [] := by
  have hcap : (if code.toNat ≤ 0x3F then code else (0x3F : Byte)).toNat ≤ 0x3F := by
    split
    · assumption
    · decide
  rw [unknownCommand, ← reply_congr_code (replyCode_capped code), refuse_eq _ _ _ _ _ h hcap]
  rfl

/-- Settles O23: the message completes with room for its reply, and the command does nothing but reply. -/
theorem unknownCommandAnswered : Obligations.UnknownCommandAnswered := by
  intro code tag params s hc hl h
  rw [exec_unknownCommand code tag params s hc, atCompletion_ready _ _ _ _ _ h hl, unknownCommand_refused code tag s h]

/-! ## IDENTIFY (R36) -/

theorem identify_nil (tag : Byte) (s : State) : identify tag [] s = reply 0x08 tag .ok identifyData s := rfl

theorem identify_badLength (tag : Byte) (params : List Byte) (s : State) (h : params ≠ []) :
    identify tag params s = reply 0x08 tag .badLength [] s :=
  if_pos (mt List.eq_nil_of_length_eq_zero h)

/-- IDENTIFY refuses a LEN above 61 like every other LEN but 0. -/
theorem exec_identify (tag : Byte) (params : List Byte) (s : State) (h : Ready s) :
    exec (.identify tag params) s = .next (identify tag params (clearAssembly s)) := by
  refine congrArg Host.Outcome.next (atCompletion_runs 0x08 tag params _ s h fun hl => ?_)
  exact identify_badLength tag params _ (List.ne_nil_of_length_pos (by omega))

/-- The nine data bytes after RESULT: part code, revision, groups, and the five capacities of Config. -/
theorem identifyData_eq : identifyData = leBytes 2 3416 ++ [1, 0xFF, 16, 32, 4, 32, 8] := rfl

/-- Settles O25: by whether parameters came; neither reply asks for a transport or configuration state. -/
theorem identifyReportsPart : Obligations.IdentifyReportsPart := by
  intro tag params s h
  rw [exec_identify tag params s h]
  split
  · next hp =>
    rw [hp, identify_nil, identifyData_eq, reply_answered _ _ _ _ (clearAssembly s) h (by decide) rfl]
    rfl
  · next hp =>
    rw [identify_badLength tag params _ hp, refuse_eq _ _ _ _ _ h (by decide)]
    rfl

end Sys2Proof.Machine

/-! PROOFS. The Configuration Store (chapter 3): the six checks of CONFIG_WRITE, the nine of CONFIG_COMMIT, CONFIG_CLEAR and
CONFIG_READ. -/

namespace Sys2Proof.Machine

/-- An answer after the store is replaced on the emptied assembly changes the store and the Message Unit alone. -/
theorem reply_withConfig (code tag : Byte) (r : Result) (data : List Byte) (c : ConfigStore) (s : State) (h : Ready s)
    (hc : code.toNat ≤ 0x3F) : reply code tag r data ((clearAssembly s).withConfig c) =
      { s with config := c, msg := answered s.msg code tag r.code data } := by
  rw [reply_answered _ _ _ _ ((clearAssembly s).withConfig c) h hc rfl]
  rfl

/-! ## CONFIG_WRITE (R44) -/

section ConfigWrite

variable {tag : Byte} {params : List Byte} {s : State}

/-- R44: a check that fails turns the command down with its result and data. -/
theorem exec_configWrite_refused (h : Ready s) (hl : params.length ≤ 61) {r : Result} {data : List Byte}
    (hr : r ≠ .ok) (hc : writeChecks params s = (r, data)) :
    exec (.configWrite tag params) s = .next (refusedWith s 0x10 tag r.code data) := by
  have hc' : writeChecks params (clearAssembly s) = (r, data) := hc
  have hrun : configWrite tag params (clearAssembly s) = reply 0x10 tag r data (clearAssembly s) := by
    simp only [configWrite, hc', if_neg hr]
  exact congrArg Host.Outcome.next
    ((atCompletion_ready _ _ _ _ _ h hl).trans (hrun.trans (refuse_eq _ _ _ _ _ h (by decide))))

/-- R44: with no check failing, the contents carried become the block's. -/
theorem exec_configWrite_stored (h : Ready s) (hl : params.length ≤ 61) {data : List Byte}
    (hc : writeChecks params s = (.ok, data)) :
    exec (.configWrite tag params) s = .next
      { s with
        config := s.config.setBlock (paramByte params 0).toNat { present := true, contents := writeContents params },
        msg := answered s.msg 0x10 tag 0x00 data } := by
  have hc' : writeChecks params (clearAssembly s) = (.ok, data) := hc
  have hrun : configWrite tag params (clearAssembly s) = reply 0x10 tag .ok data ((clearAssembly s).withConfig
      (s.config.setBlock (paramByte params 0).toNat { present := true, contents := writeContents params })) := by
    simp only [configWrite, hc', if_true]
    rfl
  exact congrArg Host.Outcome.next ((atCompletion_ready _ _ _ _ _ h hl).trans
    (hrun.trans (reply_withConfig _ _ _ _ _ s h (by decide))))

/-- The CRC carried is the number its two bytes spell, where a message is long enough to carry one. -/
theorem writeCrc_toNat (h : 2 ≤ params.length) : (writeCrc params).toNat = leNat (params.drop (params.length - 2)) := by
  have hlen : (params.drop (params.length - 2)).length = 2 := by rw [List.length_drop]; omega
  have hlt := leNat_lt (params.drop (params.length - 2))
  rw [hlen] at hlt
  rw [writeCrc, natField, List.take_of_length_le hlen.le, BitVec.toNat_ofNat]
  exact Nat.mod_eq_of_lt hlt

/-- R44 step 5: the CRC carried is the block's exactly where the numbers agree. -/
theorem writeCrc_eq_iff (h : 2 ≤ params.length) (w : Word16) :
    writeCrc params = w ↔ leNat (params.drop (params.length - 2)) = w.toNat := by
  rw [← writeCrc_toNat h, BitVec.toNat_inj]

/-- R44: past the first four checks, the CRC and the fields decide. -/
theorem writeChecks_contents (hp : params.length = 3 + blockLength (paramByte params 0).toNat)
    (hid : ¬ ((paramByte params 0).toNat < 1 ∨ 8 < (paramByte params 0).toNat)) (hv : s.config.valid = false) :
    writeChecks params s =
      if leNat (params.drop (params.length - 2)) ≠ (crc (paramByte params 0 :: writeContents params)).toNat then
        (.crcMismatch, [])
      else match badField (paramByte params 0).toNat (writeContents params) with
        | some n => (.badValue, [paramByte params 0, BitVec.ofNat 8 n])
        | none => (.ok, [paramByte params 0]) := by
  have hcrc := writeCrc_eq_iff (params := params) (by omega) (blockCrc (paramByte params 0) (writeContents params))
  have h0 : params.length ≠ 0 := by omega
  rw [writeChecks, if_neg h0, if_neg hid, if_neg (not_not.mpr hp), if_neg (Bool.not_eq_true _ ▸ hv)]
  exact if_congr (not_congr hcrc) rfl rfl

end ConfigWrite

/-- Settles O28: one case per check, in the order of R44. -/
theorem configWriteStoresBlock : Obligations.ConfigWriteStoresBlock := by
  intro tag params s h hl id contents
  split
  · next hnil => exact exec_configWrite_refused h hl (r := .badLength) (by decide) (if_pos (by rw [hnil]; rfl))
  next hnil =>
  have h0 : params.length ≠ 0 := mt List.eq_nil_of_length_eq_zero hnil
  split
  · next hid => exact exec_configWrite_refused h hl (r := .badValue) (by decide) ((if_neg h0).trans (if_pos hid))
  next hid =>
  split
  · next hlen =>
    exact exec_configWrite_refused h hl (r := .badLength) (by decide)
      ((if_neg h0).trans ((if_neg hid).trans (if_pos hlen)))
  next hlen =>
  have hlen := not_not.mp hlen
  split
  · next hv =>
    exact exec_configWrite_refused h hl (r := .inUse) (by decide)
      ((if_neg h0).trans ((if_neg hid).trans ((if_neg (not_not.mpr hlen)).trans (if_pos hv))))
  next hv =>
  have hchecks := writeChecks_contents hlen hid (eq_false_of_ne_true hv)
  split
  · next hcrc => exact exec_configWrite_refused h hl (r := .crcMismatch) (by decide) (hchecks.trans (if_pos hcrc))
  next hcrc =>
  have hfields := hchecks.trans (if_neg hcrc)
  split
  · next n hn =>
    have hbad : badField (paramByte params 0).toNat (writeContents params) = some n := hn
    rw [hbad] at hfields
    exact exec_configWrite_refused h hl (r := .badValue) (by decide) hfields
  · next hn =>
    have hgood : badField (paramByte params 0).toNat (writeContents params) = none := hn
    rw [hgood] at hfields
    exact exec_configWrite_stored h hl hfields

/-! ## CONFIG_COMMIT (R45, R46) -/

section ConfigCommit

variable (tag : Byte) (s : State)

/-- R45, R46: what CONFIG_COMMIT in NOT_VALID makes of the outcome of its checks. -/
def CommitAnswered : Option (Nat × Nat) → Prop
  | some (n, detail) => exec (.configCommit tag []) s =
      .next (refusedWith s 0x11 tag 0x1E [BitVec.ofNat 8 n, BitVec.ofNat 8 detail])
  | none => ∃ t, exec (.configCommit tag []) s = .next t ∧ t.config.valid = true

theorem applyPending_frame : UnchangedBut [.position] s (applyPending s) := by
  unfold applyPending
  split
  · exact .refl _ _
  · exact withPosition_frame _ _

/-- R45: a commit makes the configuration VALID and leaves the blocks as they are. -/
theorem commitEffects_config : (commitEffects s).config = { s.config with valid := true } := by
  unfold commitEffects queueConfigState
  rw [(queueNotice_frame _ _ _ _).config, (applyPending_frame _).config, (closeGates_frame _).config]
  simp only [withProtection_config, withTakeup_config, withSupply_config]
  rw [(enterRest_frame _ _).config, withConfig_config]

theorem exec_configCommit (h : Ready s) :
    exec (.configCommit tag []) s = .next (configCommit tag [] (clearAssembly s)) :=
  congrArg Host.Outcome.next (atCompletion_ready _ _ _ _ _ h (Nat.zero_le _))

variable {s}

/-- While NOT_VALID, a commit without parameters is refused where a check fails. -/
theorem configCommit_failed (hv : s.config.valid = false) {n detail : Nat} (hf : commitFailure s = some (n, detail)) :
    configCommit tag [] s = reply 0x11 tag .checkFailed [BitVec.ofNat 8 n, BitVec.ofNat 8 detail] s := by
  simp [configCommit, hv, hf]

/-- While NOT_VALID, a commit without parameters succeeds where none does. -/
theorem configCommit_passed (hv : s.config.valid = false) (hf : commitFailure s = none) :
    configCommit tag [] s = reply 0x11 tag .ok [] (commitEffects s) := by
  simp [configCommit, hv, hf]

/-- The checks ask for nothing of the Message Unit, so they decide alike once the assembly is emptied. -/
theorem commitFailure_clearAssembly : commitFailure (clearAssembly s) = commitFailure s := rfl

/-- R45, R46: CONFIG_COMMIT answers as its checks decide. -/
theorem configCommit_answered (h : Ready s) (hv : s.config.valid = false) :
    CommitAnswered tag s (commitFailure s) := by
  have hexec := exec_configCommit tag s h
  have hv' : (clearAssembly s).config.valid = false := hv
  cases hf : commitFailure s with
  | some x =>
    rw [configCommit_failed tag hv' (commitFailure_clearAssembly.trans hf), refuse_eq _ _ _ _ _ h (by decide)] at hexec
    exact hexec
  | none =>
    rw [configCommit_passed tag hv' (commitFailure_clearAssembly.trans hf)] at hexec
    refine ⟨_, hexec, ?_⟩
    rw [(reply_frame _ _ _ _ _).config, commitEffects_config]

/-- R46 check 1 searches the ids in their order. -/
theorem absentBlock_eq_find (c : ConfigStore) : absentBlock c = (List.range' 1 8).find? fun id => !(c.block id).present := rfl

/-- R46 check 1 names the lowest absent block. -/
theorem absentBlock_eq_some (c : ConfigStore) (id : Nat) : absentBlock c = some id ↔
    (c.block id).present = false ∧ (1 ≤ id ∧ id ≤ 8) ∧ ∀ j, 1 ≤ j → j < id → (c.block j).present = true := by
  rw [absentBlock_eq_find, List.find?_range'_eq_some]
  simp [Nat.lt_succ_iff]

theorem absentBlock_eq_none (c : ConfigStore) : absentBlock c = none ↔
    ∀ id, 1 ≤ id → id ≤ 8 → (c.block id).present = true := by
  rw [absentBlock_eq_find, List.find?_range'_eq_none]
  simp [Nat.lt_succ_iff]

theorem curveRises_iff (r : Reel) : curveRises s r = true ↔ ∀ i < 16, s.curve r i ≤ s.curve r (i + 1) := by
  simp [curveRises]

theorem curveRises_eq_false (r : Reel) : curveRises s r = false ↔ ¬ ∀ i < 16, s.curve r i ≤ s.curve r (i + 1) := by
  rw [← curveRises_iff, Bool.not_eq_true]

/-- R46: with every block present, checks 2 to 9 decide in their order. -/
theorem commitFailure_of_present (hp : absentBlock s.config = none) : commitFailure s =
    if ¬ (s.rHub < s.rStart ∧ s.rStart ≤ s.rMax) then some (2, 0)
    else if s.rHub + 32 * s.bandW < s.rMax then some (3, 0)
    else if ¬ ∀ i : Nat, i < 16 → s.curve .supply i ≤ s.curve .supply (i + 1) then some (4, 1)
    else if ¬ ∀ i : Nat, i < 16 → s.curve .takeup i ≤ s.curve .takeup (i + 1) then some (4, 2)
    else if ¬ (s.holdLow < s.holdHigh ∧ s.holdHigh ≤ 16) then some (5, 0)
    else if ¬ (s.creepSpeed ≤ s.jogMax ∧ s.jogMax ≤ s.windMax) then some (6, 0)
    else if ¬ (s.playSpeed false ≤ s.capstanMax ∧ s.playSpeed true ≤ s.capstanMax) then some (7, 0)
    else if ¬ (s.lockWindow < s.lossWindow ∧ s.lossWindow ≤ s.phaseWindow ∧ s.phaseWindow < s.acqWindow) then some (8, 0)
    else if s.profile.profiles[s.profile.active].complete = false then some (9, s.profile.active.val)
    else none := by
  rw [commitFailure, hp]
  exact if_congr Iff.rfl rfl (if_congr Nat.not_le rfl
    (if_congr (curveRises_eq_false .supply) rfl (if_congr (curveRises_eq_false .takeup) rfl rfl)))

end ConfigCommit

/-- Settles O30: the checks name the lowest absent block, or the first of the others that fails, and the reply is what
`configCommit_answered` makes of it. -/
theorem commitChecksOrdered : Obligations.CommitChecksOrdered := by
  intro tag s h hv failed present rises absent
  have hanswer := configCommit_answered tag h hv
  refine ⟨fun id hid hlow => ?_, fun hall => ?_⟩
  · have hfirst : absentBlock s.config = some id.val := by
      refine (absentBlock_eq_some _ _).mpr ⟨hid.2, ⟨hid.1, by omega⟩, fun j hj hlt => ?_⟩
      by_contra habs
      have hle : id.val ≤ j := hlow ⟨j, by omega⟩ ⟨hj, eq_false_of_ne_true habs⟩
      omega
    rw [commitFailure, hfirst] at hanswer
    exact hanswer
  · have hnone : absentBlock s.config = none := by
      refine (absentBlock_eq_none _).mpr fun id h1 h8 => ?_
      by_contra habs
      exact hall ⟨id, by omega⟩ ⟨h1, eq_false_of_ne_true habs⟩
    rw [commitFailure_of_present hnone] at hanswer
    simp only [apply_ite (CommitAnswered tag s)] at hanswer
    exact hanswer

/-! ## CONFIG_CLEAR and CONFIG_READ (R49, R50) -/

section ClearAndRead

variable (tag : Byte) (params : List Byte) (s : State)

theorem configClear_badLength (hp : params ≠ []) : configClear tag params s = reply 0x13 tag .badLength [] s :=
  if_pos (mt List.eq_nil_of_length_eq_zero hp)

/-- R49: while NOT_VALID, the cleared store is the one of power-on. -/
theorem clearBlocks_notValid (hv : s.config.valid = false) : clearBlocks s = s.withConfig ConfigStore.initial := by
  rw [clearBlocks, hv]
  rfl

/-- R49: CONFIG_CLEAR without parameters asks for the configuration state. -/
theorem configClear_nil : configClear tag [] s =
    if s.config.valid then reply 0x13 tag .inUse [] s else reply 0x13 tag .ok [] (clearBlocks s) := rfl

/-- CONFIG_CLEAR refuses a LEN above 61 like every other LEN but 0. -/
theorem exec_configClear (h : Ready s) :
    exec (.configClear tag params) s = .next (configClear tag params (clearAssembly s)) := by
  refine congrArg Host.Outcome.next (atCompletion_runs 0x13 tag params _ s h fun hl => ?_)
  exact configClear_badLength tag params _ (List.ne_nil_of_length_pos (by omega))

theorem configRead_badLength (hp : params.length ≠ 1) : configRead tag params s = reply 0x14 tag .badLength [] s :=
  if_pos hp

/-- R50: CONFIG_READ with one byte asks whether it is the id of a block. -/
theorem configRead_id (id : Byte) : configRead tag [id] s =
    if id.toNat < 1 ∨ 8 < id.toNat then reply 0x14 tag .badValue [] s
    else reply 0x14 tag .ok (configReadData id s) s := rfl

/-- CONFIG_READ refuses a LEN above 61 like every other LEN but 1. -/
theorem exec_configRead (h : Ready s) :
    exec (.configRead tag params) s = .next (configRead tag params (clearAssembly s)) := by
  refine congrArg Host.Outcome.next (atCompletion_runs 0x14 tag params _ s h fun hl => ?_)
  exact configRead_badLength tag params _ (by omega)

theorem ofNat_bit (b : Bool) : BitVec.ofNat 8 (bit b) = if b then 1 else 0 := by cases b <;> rfl

end ClearAndRead

/-- Settles O32: each command by its parameters, then by the check of R49 or R50. -/
theorem configClearAndRead : Obligations.ConfigClearAndRead := by
  intro tag params s h absent
  refine ⟨?_, ?_⟩
  · rw [exec_configClear tag params s h]
    split
    · next hp => rw [configClear_badLength tag params _ hp, refuse_eq _ _ _ _ _ h (by decide)]; rfl
    next hp =>
    rw [not_not.mp hp, configClear_nil]
    cases hv : s.config.valid with
    | true => rw [if_pos (show (clearAssembly s).config.valid = true from hv), refuse_eq _ _ _ _ _ h (by decide)]; rfl
    | false =>
      rw [if_neg (Bool.not_eq_true _ ▸ show (clearAssembly s).config.valid = false from hv),
        clearBlocks_notValid (clearAssembly s) hv, reply_withConfig _ _ _ _ _ s h (by decide)]
      rfl
  · rw [exec_configRead tag params s h]
    split
    · next id =>
      rw [configRead_id]
      split
      · rw [refuse_eq _ _ _ _ _ h (by decide)]; rfl
      · rw [reply_answered _ _ _ _ (clearAssembly s) h (by decide) rfl, configReadData, ofNat_bit]
        rfl
    · next hp =>
      have hlen : params.length ≠ 1 := fun hl => by
        obtain ⟨id, rfl⟩ := List.length_eq_one_iff.mp hl
        exact hp id rfl
      rw [configRead_badLength tag params _ hlen, refuse_eq _ _ _ _ _ h (by decide)]
      rfl

end Sys2Proof.Machine

/-! PROOFS. The Profile Unit (chapter 4): the four checks of PROFILE_WINDOW, and PROFILE_READ. -/

namespace Sys2Proof.Machine

/-- An answer after the Profile Unit is replaced on the emptied assembly changes that and the Message Unit alone. -/
theorem reply_withProfile (code tag : Byte) (r : Result) (data : List Byte) (x : ProfileUnit) (s : State) (h : Ready s)
    (hc : code.toNat ≤ 0x3F) : reply code tag r data ((clearAssembly s).withProfile x) =
      { s with profile := x, msg := answered s.msg code tag r.code data } := by
  rw [reply_answered _ _ _ _ ((clearAssembly s).withProfile x) h hc rfl]
  rfl

/-- R54, R55: a profile, named by a number that is one, is in use where it is the active one and tape is being driven or
halted. -/
theorem profileInUse_ofNat_iff (s : State) (p : Nat) (hp : p ≤ 3) : profileInUse s (Fin.ofNat 4 p) = true ↔
    p = s.profile.active.val ∧ s.planner.transport ∈ [Transport.play, .wind, .locate, .chase, .halting] := by
  have hval : (Fin.ofNat 4 p).val = p := Nat.mod_eq_of_lt (by omega)
  rw [profileInUse, Bool.and_eq_true, beq_iff_eq, List.contains_iff_mem, Fin.ext_iff, hval]

/-! ## PROFILE_WINDOW (R54) -/

section ProfileWindow

variable (tag : Byte) (params : List Byte) (s : State)

theorem profileWindow_badLength (hp : params.length ≠ 3) :
    profileWindow tag params s = reply 0x18 tag .badLength [] s := if_pos hp

/-- R54: with three bytes, the ranges, the order of the bands and the use of the profile decide in turn. -/
theorem profileWindow_bands (p first last : Byte) : profileWindow tag [p, first, last] s =
    if 3 < p.toNat ∨ 31 < first.toNat ∨ 31 < last.toNat then reply 0x18 tag .badValue [] s
    else if last.toNat < first.toNat then reply 0x18 tag .badValue [] s
    else if profileInUse s (Fin.ofNat 4 p.toNat) then reply 0x18 tag .inUse [] s
    else reply 0x18 tag .ok [] (s.withProfile { s.profile with
      window := some { profile := Fin.ofNat 4 p.toNat, first := Fin.ofNat 32 first.toNat,
                       last := Fin.ofNat 32 last.toNat, counter := Fin.ofNat 32 first.toNat } }) := rfl

/-- PROFILE_WINDOW refuses a LEN above 61 like every other LEN but 3. -/
theorem exec_profileWindow (h : Ready s) :
    exec (.profileWindow tag params) s = .next (profileWindow tag params (clearAssembly s)) := by
  refine congrArg Host.Outcome.next (atCompletion_runs 0x18 tag params _ s h fun hl => ?_)
  exact profileWindow_badLength tag params _ (by omega)

end ProfileWindow

/-- Settles O33: one case per check, in the order of R54. -/
theorem profileWindowSetsWindow : Obligations.ProfileWindowSetsWindow := by
  intro tag params s h
  rw [exec_profileWindow tag params s h]
  split
  · next p first last =>
    rw [profileWindow_bands]
    split
    · rw [refuse_eq _ _ _ _ _ h (by decide)]; rfl
    next hrange =>
    have huse := profileInUse_ofNat_iff (clearAssembly s) p.toNat (by omega)
    split
    · rw [refuse_eq _ _ _ _ _ h (by decide)]; rfl
    split
    · next hin => rw [refuse_eq _ _ _ _ _ h (by decide)]; exact congrArg _ (if_pos (huse.mp hin)).symm
    · next hin =>
      rw [reply_withProfile _ _ _ _ _ s h (by decide)]
      exact congrArg _ (if_neg (mt huse.mpr hin)).symm
  · next hp =>
    have hlen : params.length ≠ 3 := fun hl => by
      obtain ⟨p, first, last, rfl⟩ := List.length_eq_three.mp hl
      exact hp p first last rfl
    rw [profileWindow_badLength tag params _ hlen, refuse_eq _ _ _ _ _ h (by decide)]
    rfl

/-! ## PROFILE_READ (R61) -/

/-- The entry of a band number is the one at that index. -/
theorem Profile.band_ofNat (x : Profile) (band : Nat) (hb : band ≤ 31) : x.band band = x.bands[Fin.ofNat 32 band] := by
  have hmin : min band 31 = band := by omega
  have hval : (Fin.ofNat 32 band).val = band := Nat.mod_eq_of_lt (by omega)
  simp only [Profile.band, Fin.getElem_fin, hmin, hval]

section ProfileRead

variable (tag : Byte) (params : List Byte) (s : State)

theorem profileRead_badLength (hp : params.length ≠ 2) : profileRead tag params s = reply 0x1C tag .badLength [] s :=
  if_pos hp

/-- R61: PROFILE_READ with two bytes asks whether they are a profile and a band. -/
theorem profileRead_band (p band : Byte) : profileRead tag [p, band] s =
    if 3 < p.toNat ∨ 31 < band.toNat then reply 0x1C tag .badValue [] s
    else reply 0x1C tag .ok (profileReadData p.toNat band.toNat s) s := rfl

/-- PROFILE_READ refuses a LEN above 61 like every other LEN but 2. -/
theorem exec_profileRead (h : Ready s) :
    exec (.profileRead tag params) s = .next (profileRead tag params (clearAssembly s)) := by
  refine congrArg Host.Outcome.next (atCompletion_runs 0x1C tag params _ s h fun hl => ?_)
  exact profileRead_badLength tag params _ (by omega)

end ProfileRead

/-- Settles O36: by the length, then by the one check of R61; the reply's bytes are those of `profileReadData`. -/
theorem profileReadReportsEntry : Obligations.ProfileReadReportsEntry := by
  intro tag params s h
  rw [exec_profileRead tag params s h]
  split
  · next p band =>
    rw [profileRead_band]
    split
    · rw [refuse_eq _ _ _ _ _ h (by decide)]; rfl
    · next hrange =>
      rw [reply_answered _ _ _ _ (clearAssembly s) h (by decide) rfl, profileReadData,
        Profile.band_ofNat _ _ (by omega), ofNat_bit, ofNat_bit, BitVec.ofNat_toNat, BitVec.setWidth_eq,
        BitVec.ofNat_toNat, BitVec.setWidth_eq]
      rfl
  · next hp =>
    have hlen : params.length ≠ 2 := fun hl => by
      obtain ⟨p, band, rfl⟩ := List.length_eq_two.mp hl
      exact hp p band rfl
    rw [profileRead_badLength tag params _ hlen, refuse_eq _ _ _ _ _ h (by decide)]
    rfl

end Sys2Proof.Machine

/-! PROOFS. The commands that read a unit out: READ_REEL (R93), READ_POSITION (R109) and READ_TRANSPORT (R132). -/

namespace Sys2Proof.Machine

/-- A pattern of one parameter byte that does not match leaves another number of parameters. -/
theorem length_ne_one_of_ne_singleton {params : List Byte} (h : ∀ b, params = [b] → False) : params.length ≠ 1 :=
  mt List.length_eq_one_iff.mp (not_exists.mpr h)

/-- R132: after the bytes before it, an address that may be held is reported by a byte 1 and its four bytes, or by five
bytes 0. -/
theorem append_heldAddress (l : List Byte) (a : Option Nat) : l ++ [BitVec.ofNat 8 (bit a.isSome)] ++ addressBytes a =
    l ++ (match a with
      | none => [0, 0, 0, 0, 0]
      | some t => 1 :: leBytes 4 t) := by
  rw [List.append_assoc]
  cases a <;> rfl

/-- R109: the same of a pending position, which is held as a word. -/
theorem append_pendingAddress (l : List Byte) (a : Option Word32) :
    l ++ [BitVec.ofNat 8 (bit a.isSome)] ++ addressBytes (a.map BitVec.toNat) =
    l ++ (match a with
      | none => [0, 0, 0, 0, 0]
      | some t => 1 :: leBytes 4 t.toNat) := by
  cases a with
  | none => exact append_heldAddress l none
  | some t => exact append_heldAddress l (some t.toNat)

/-! ## READ_REEL (R93) -/

section ReadReel

variable (tag : Byte) (params : List Byte) (s : State)

theorem readReel_badLength (hp : params.length ≠ 1) : readReel tag params s = reply 0x20 tag .badLength [] s :=
  if_pos hp

/-- R93: READ_REEL with one byte asks whether it names a reel. -/
theorem readReel_which (which : Byte) : readReel tag [which] s =
    if which = 0 then reply 0x20 tag .ok (readReelData .supply s.supply) s
    else if which = 1 then reply 0x20 tag .ok (readReelData .takeup s.takeup) s
    else reply 0x20 tag .badValue [] s := rfl

/-- READ_REEL refuses a LEN above 61 like every other LEN but 1. -/
theorem exec_readReel (h : Ready s) :
    exec (.readReel tag params) s = .next (readReel tag params (clearAssembly s)) := by
  refine congrArg Host.Outcome.next (atCompletion_runs 0x20 tag params _ s h fun hl => ?_)
  exact readReel_badLength tag params _ (by omega)

end ReadReel

/-! ## READ_POSITION (R109) -/

/-- R99: with a SECTOR_LEN that is a count, the floor of S(P) is the quotient of the integers. -/
theorem sectorPos_eq (s : State) : sectorPos s = (s.position.p.toInt - s.readerOffset) * 256 / (s.sectorLen : Int) :=
  Int.fdiv_eq_ediv_of_nonneg _ (Int.natCast_nonneg _)

/-- The read-out asks for nothing of the Message Unit, so it is the same once the assembly is emptied. -/
theorem readPositionData_clearAssembly (s : State) : readPositionData (clearAssembly s) = readPositionData s := rfl

section ReadPosition

variable (tag : Byte) (params : List Byte) (s : State)

/-- An answer after the Position Unit is replaced on the emptied assembly changes that and the Message Unit alone. -/
theorem reply_withPosition (code : Byte) (r : Result) (data : List Byte) (x : PositionUnit) (h : Ready s)
    (hc : code.toNat ≤ 0x3F) : reply code tag r data ((clearAssembly s).withPosition x) =
      { s with position := x, msg := answered s.msg code tag r.code data } := by
  rw [reply_answered _ _ _ _ ((clearAssembly s).withPosition x) h hc rfl]
  rfl

theorem readPosition_badLength (hp : params.length ≠ 1) :
    readPosition tag params s = reply 0x22 tag .badLength [] s := if_pos hp

/-- R109: with one byte the values are taken first, and the counters zeroed as its bit 0 says. -/
theorem readPosition_option (option : Byte) : readPosition tag [option] s =
    reply 0x22 tag .ok (readPositionData s)
      (s.withPosition (if option.getLsbD 0 then
        { s.position with accepted := 0, discrepant := 0, reanchors := 0, coasted := 0 } else s.position)) :=
  congrArg (reply 0x22 tag .ok (readPositionData s)) (apply_ite s.withPosition _ _ _).symm

/-- READ_POSITION refuses a LEN above 61 like every other LEN but 1. -/
theorem exec_readPosition (h : Ready s) :
    exec (.readPosition tag params) s = .next (readPosition tag params (clearAssembly s)) := by
  refine congrArg Host.Outcome.next (atCompletion_runs 0x22 tag params _ s h fun hl => ?_)
  exact readPosition_badLength tag params _ (by omega)

end ReadPosition

/-! ## READ_TRANSPORT (R132) -/

/-- R134: a phase code leaves bit 7 of its byte to the direction. -/
theorem Phase.code_or_reverse (x : Phase) (reverse : Bool) :
    x.code ||| (if reverse then 0x80 else 0) = x.code + (if reverse then 0x80 else 0) := by
  cases reverse <;> cases x <;> rfl

/-- R134: the locate record's fields, after the bytes before them. -/
theorem append_locateBytes (l : List Byte) (r : LocateRecord) : l ++ locateBytes r =
    l ++ [r.kind.code, r.phase.code + (if r.reverse then 0x80 else 0)] ++ leBytes 4 r.target.toNat ++
      leBytes 4 r.remaining ++ [BitVec.ofNat 8 r.overshoots] := by
  simp only [locateBytes, word32Bytes, Phase.code_or_reverse, List.append_assoc]

section ReadTransport

variable (tag : Byte) (params : List Byte) (s : State)

theorem readTransport_badLength (hp : params ≠ []) :
    readTransport tag params s = reply 0x2D tag .badLength [] s := if_pos (mt List.eq_nil_of_length_eq_zero hp)

theorem readTransport_nil : readTransport tag [] s = reply 0x2D tag .ok (readTransportData s) s := rfl

/-- READ_TRANSPORT refuses a LEN above 61 like every other LEN but 0. -/
theorem exec_readTransport (h : Ready s) :
    exec (.readTransport tag params) s = .next (readTransport tag params (clearAssembly s)) := by
  refine congrArg Host.Outcome.next (atCompletion_runs 0x2D tag params _ s h fun hl => ?_)
  exact readTransport_badLength tag params _ (List.ne_nil_of_length_pos (by omega))

end ReadTransport

/-- Settles O37: each command by its parameters; the reply's bytes are those of the unit's read-out, whose flags, sector
position, held address and locate record are as the lemmas above say. -/
theorem readingCommandsReportState : Obligations.ReadingCommandsReportState := by
  intro tag params s h flag reel x p sector
  refine ⟨?_, ?_, ?_⟩
  · rw [exec_readReel tag params s h]
    split
    · next which =>
      rw [readReel_which]
      split
      · rw [reply_answered _ _ _ _ (clearAssembly s) h (by decide) rfl, readReelData, ofNat_bit, ofNat_bit]; rfl
      split
      · rw [reply_answered _ _ _ _ (clearAssembly s) h (by decide) rfl, readReelData, ofNat_bit, ofNat_bit]; rfl
      · rw [refuse_eq _ _ _ _ _ h (by decide)]; rfl
    · next hp =>
      rw [readReel_badLength tag params _ (length_ne_one_of_ne_singleton hp), refuse_eq _ _ _ _ _ h (by decide)]
      rfl
  · rw [exec_readPosition tag params s h]
    split
    · next option =>
      rw [readPosition_option, reply_withPosition tag s _ _ _ _ h (by decide), readPositionData_clearAssembly,
        readPositionData, sectorPos_eq, append_pendingAddress]
      rfl
    · next hp =>
      rw [readPosition_badLength tag params _ (length_ne_one_of_ne_singleton hp), refuse_eq _ _ _ _ _ h (by decide)]
      rfl
  · rw [exec_readTransport tag params s h]
    split
    · next hp => rw [readTransport_badLength tag params _ hp, refuse_eq _ _ _ _ _ h (by decide)]; rfl
    · next hp =>
      rw [not_not.mp hp, readTransport_nil, reply_answered _ _ _ _ (clearAssembly s) h (by decide) rfl,
        readTransportData, append_locateBytes, append_heldAddress, ofNat_bit]
      rfl

end Sys2Proof.Machine

/-! PROOFS. The Cue Unit (chapter 9): the entry eight bytes carry, the overlap test of a write, and CUE_WRITE. -/

namespace Sys2Proof.Machine

/-! ## The entry carried (section 1.6, Cue entry) -/

/-- A field of one byte is the byte there, 0 where the bytes end before it. -/
theorem natField_one (bs : List Byte) (off : Nat) : natField bs off 1 = (bs.getD off 0).toNat := by
  rw [natField, List.take_one, List.head?_drop, List.getD_eq_getElem?_getD]
  cases bs[off]? <;> rfl

theorem cueDirectionOf_eq_some (n : Nat) (d : CueDirection) : cueDirectionOf n = some d ↔ d.code = n := by
  constructor
  · intro h
    unfold cueDirectionOf at h
    split at h <;> cases h <;> rfl
  · rintro rfl
    cases d <;> rfl

/-- Three codes name a direction; none is left for 3 and above. -/
theorem cueDirectionOf_eq_none (n : Nat) : cueDirectionOf n = none ↔ 3 ≤ n := by
  match n with
  | 0 | 1 | 2 => simp [cueDirectionOf]
  | n + 3 => simp [cueDirectionOf]

theorem cueActionOf_eq_some (n : Nat) (a : CueAction) : cueActionOf n = some a ↔ a.code = n := by
  constructor
  · intro h
    unfold cueActionOf at h
    split at h <;> cases h <;> rfl
  · rintro rfl
    cases a <;> rfl

theorem cueActionOf_eq_none (n : Nat) : cueActionOf n = none ↔ 5 ≤ n := by
  match n with
  | 0 | 1 | 2 | 3 | 4 => simp [cueActionOf]
  | n + 5 => simp [cueActionOf]

/-- The gate actions are the two of code 0 and 1: they need a mask, and the others need none. -/
theorem maskSuits_eq_false (a : CueAction) (m : Byte) : maskSuits a m = false ↔ (a.code ≤ 1 ↔ m = 0) := by
  cases a <;> simp [maskSuits, CueAction.code]

/-- R150 step 3: unfit bytes carry no entry, one case for each reason. -/
theorem cueEntryOf_eq_none (armed : Bool) {bs : List Byte} (h : CueUnfit bs) : cueEntryOf armed bs = none := by
  rw [cueEntryOf, natField_one]
  rcases h with hdir | hact | hmask
  · simp only [(cueDirectionOf_eq_none _).mpr hdir.ge]
  · rw [(cueActionOf_eq_none _).mpr hact]
    cases cueDirectionOf _ <;> rfl
  · split
    · next d a hd ha =>
      rw [← (cueActionOf_eq_some _ a).mp ha] at hmask
      rw [(maskSuits_eq_false a _).mpr hmask]
      rfl
    · rfl

/-- R150: the entry that fit bytes carry, in the state the arm flag gives. -/
theorem cueEntryOf_eq_some {armed : Bool} {bs : List Byte} {e : CueEntry} (h : CarriedCue armed bs e) :
    cueEntryOf armed bs = some e := by
  obtain ⟨hfit, hstate, haddr, hdir, hact, hshot, hprof, hmask, hlabel⟩ := h
  have hsuits : maskSuits e.action e.mask = true := by
    rw [← Bool.not_eq_false, maskSuits_eq_false, hact, hmask]
    exact fun hm => hfit (.inr (.inr hm))
  have hprofile : Fin.ofNat 4 ((bs.getD 4 0).toNat / 64) = e.profile := by
    rw [← hprof, Fin.ofNat_val_eq_self]
  rw [cueEntryOf, natField_one]
  simp only [(cueDirectionOf_eq_some _ _).mpr hdir, (cueActionOf_eq_some _ _).mpr hact, ← hmask, hsuits, if_true,
    hprofile, ← hstate]
  rw [natField, natField, List.drop_zero, ← haddr, ← hlabel, beq_eq_decide, ← hshot]

/-! ## The overlap test (R149, R150) -/

theorem directionsOverlap_iff (a b : CueDirection) :
    directionsOverlap a b = true ↔ a = b ∨ a = .either ∨ b = .either := by
  simp [directionsOverlap, or_assoc]

theorem CueEntry.overlaps_iff (a b : CueEntry) : a.overlaps b = true ↔ Overlapping a b := by
  simp [CueEntry.overlaps, Overlapping, directionsOverlap_iff]

theorem cueEntry_val (s : State) (j : Fin 32) : cueEntry s j = s.cue.entries[j] := by
  simp [cueEntry]

/-- R149, R150: an entry written ARMED at an index conflicts with entry j, an ARMED entry elsewhere that it overlaps. -/
def WriteConflict (s : State) (armed : Bool) (index : Nat) (e : CueEntry) (j : Fin 32) : Prop :=
  armed = true ∧ j.val ≠ index ∧ s.cue.entries[j].state = .armed ∧ Overlapping s.cue.entries[j] e

section OverlapTest

variable {s : State} {armed : Bool} {index : Nat} {e : CueEntry}

/-- What the test asks of each entry, where the arm flag is set. -/
theorem conflictTest_iff (j : Fin 32) (harm : armed = true) :
    (j.val != index && (cueEntry s j).state == .armed && (cueEntry s j).overlaps e) = true ↔
      WriteConflict s armed index e j := by
  rw [cueEntry_val]
  simp [WriteConflict, harm, CueEntry.overlaps_iff, and_assoc]

/-- R150 step 4: the test names the lowest entry in conflict. -/
theorem writeConflict_eq_some {j : Fin 32} (hj : WriteConflict s armed index e j)
    (hlow : ∀ k, WriteConflict s armed index e k → j ≤ k) : writeConflict s armed index e = some j.val := by
  have harm : armed = true := hj.1
  rw [writeConflict, if_pos harm, armedConflict, List.find?_range_eq_some]
  refine ⟨(conflictTest_iff j harm).mpr hj, List.mem_range.mpr j.isLt, fun k hk => ?_⟩
  rw [Bool.not_eq_true', ← Bool.not_eq_true]
  intro hconf
  have hle := hlow ⟨k, hk.trans j.isLt⟩ ((conflictTest_iff ⟨k, hk.trans j.isLt⟩ harm).mp hconf)
  exact absurd hk (Nat.not_lt.mpr hle)

theorem writeConflict_eq_none (hfree : ∀ j, ¬ WriteConflict s armed index e j) :
    writeConflict s armed index e = none := by
  rw [writeConflict]
  split
  · next harm =>
    rw [armedConflict, List.find?_range_eq_none]
    intro j hj
    rw [Bool.not_eq_true', ← Bool.not_eq_true]
    exact mt (conflictTest_iff ⟨j, hj⟩ harm).mp (hfree ⟨j, hj⟩)
  · rfl

end OverlapTest

/-! ## CUE_WRITE (R150) -/

section CueWrite

variable (tag : Byte) {params : List Byte} {s : State}

theorem cueWrite_badLength (hp : params.length ≠ 10) : cueWrite tag params s = reply 0x30 tag .badLength [] s :=
  if_pos hp

/-- CUE_WRITE refuses a LEN above 61 like every other LEN but 10. -/
theorem exec_cueWrite (params : List Byte) (h : Ready s) :
    exec (.cueWrite tag params) s = .next (cueWrite tag params (clearAssembly s)) := by
  refine congrArg Host.Outcome.next (atCompletion_runs 0x30 tag params _ s h fun hl => ?_)
  exact cueWrite_badLength tag (by omega)

theorem cueWrite_badIndex (hp : params.length = 10) (hi : 31 < (paramByte params 0).toNat) :
    cueWrite tag params s = reply 0x30 tag .badValue [] s := by
  rw [cueWrite, if_neg (not_not.mpr hp), if_pos hi]

theorem cueWrite_badEntry (hp : params.length = 10) (hi : (paramByte params 0).toNat ≤ 31)
    (hunfit : CueUnfit (params.drop 2)) : cueWrite tag params s = reply 0x30 tag .badValue [] s := by
  rw [cueWrite, if_neg (not_not.mpr hp), if_neg (Nat.not_lt.mpr hi), cueEntryOf_eq_none _ hunfit]

section Carried

variable {e : CueEntry} (hp : params.length = 10) (hi : (paramByte params 0).toNat ≤ 31)
  (he : CarriedCue ((paramByte params 1).getLsbD 0) (params.drop 2) e)

include hp hi he

theorem cueWrite_duplicate {j : Nat}
    (hc : writeConflict s ((paramByte params 1).getLsbD 0) (paramByte params 0).toNat e = some j) :
    cueWrite tag params s = reply 0x30 tag .duplicate [BitVec.ofNat 8 j] s := by
  simp only [cueWrite, if_neg (not_not.mpr hp), if_neg (Nat.not_lt.mpr hi), cueEntryOf_eq_some he, hc]

theorem cueWrite_stored
    (hc : writeConflict s ((paramByte params 1).getLsbD 0) (paramByte params 0).toNat e = none) :
    cueWrite tag params s = reply 0x30 tag .ok [paramByte params 0] (setCue (paramByte params 0).toNat e s) := by
  simp only [cueWrite, if_neg (not_not.mpr hp), if_neg (Nat.not_lt.mpr hi), cueEntryOf_eq_some he, hc,
    BitVec.ofNat_toNat, BitVec.setWidth_eq]

end Carried

end CueWrite

/-- An answer after an entry is replaced on the emptied assembly changes the table and the Message Unit alone. -/
theorem reply_setCue (code tag : Byte) (r : Result) (data : List Byte) (index : Nat) (e : CueEntry) (s : State)
    (h : Ready s) (hc : code.toNat ≤ 0x3F) : reply code tag r data (setCue index e (clearAssembly s)) =
      { s with
        cue := { s.cue with entries := s.cue.entries.setIfInBounds index e },
        msg := answered s.msg code tag r.code data } := by
  rw [reply_answered _ _ _ _ (setCue index e (clearAssembly s)) h hc rfl]
  rfl

/-- Settles O49: one case per check, in the order of R150. The checks read nothing of the Message Unit, so they are the same
once the assembly is emptied. -/
theorem cueWriteReplacesEntry : Obligations.CueWriteReplacesEntry := by
  intro tag params s h index armed outcome
  have hrun : outcome = .next (cueWrite tag params (clearAssembly s)) := exec_cueWrite tag params h
  rw [hrun]
  refine ⟨fun hp => ?_, fun hp hi => ?_, fun hp hi hunfit => ?_, ?_⟩
  · rw [cueWrite_badLength tag hp, refuse_eq _ _ _ _ _ h (by decide)]
    rfl
  · rw [cueWrite_badIndex tag hp hi, refuse_eq _ _ _ _ _ h (by decide)]
    rfl
  · rw [cueWrite_badEntry tag hp hi hunfit, refuse_eq _ _ _ _ _ h (by decide)]
    rfl
  intro e hp hi he conflict
  constructor
  · intro j hj hlow
    have hc : writeConflict (clearAssembly s) armed index.toNat e = some j.val := writeConflict_eq_some hj hlow
    rw [cueWrite_duplicate tag hp hi he hc, refuse_eq _ _ _ _ _ h (by decide)]
    rfl
  · intro hfree
    have hc : writeConflict (clearAssembly s) armed index.toNat e = none := writeConflict_eq_none hfree
    rw [cueWrite_stored tag hp hi he hc, reply_setCue _ _ _ _ _ _ _ h (by decide)]
    rfl

end Sys2Proof.Machine
